-- ==== Sys2Proof/Word.lean ====
section
/-! DEFINITION. The word types of the PyunPyun DDS core (00_scope.md R7, R9; 30_encoding.md R71). -/

namespace Sys2Proof

/-- A register word, a phase, a tuning word: 32 bits (20_memory.md R51, 00_scope.md R7 `ACC_W`). -/
abbrev Word := BitVec 32

/-- A command word or trace word: 40 bits (30_encoding.md R71, R77). -/
abbrev CmdWord := BitVec 40

/-- A wavetable sample: 12 bits, unsigned, centred on 2048 (00_scope.md R7 `SAMPLE_W`). -/
abbrev Sample := BitVec 12

/-- A wavetable index: 10 bits (00_scope.md R7 `LOG2N`). -/
abbrev Index := BitVec 10

/-- A modulation depth: 8 bits (00_scope.md R7 `DEPTH_W`). -/
abbrev Depth := BitVec 8

/-- A wavetable ROM address: 13 bits (20_memory.md R50). -/
abbrev RomAddr := BitVec 13

end Sys2Proof
end

