-- ==== Sys2Proof/Machine/Params.lean ====
section
/-! DEFINITION. The parameters the spec fixes (00_scope.md R7), under the spec's names. -/

namespace Sys2Proof.Machine

/-- `ACC_W` (R7). -/
def accW : Nat := 32
/-- `N`, the wavetable length (R7). -/
def tableLen : Nat := 1024
/-- `LOG2N` (R7). -/
def log2TableLen : Nat := 10
/-- `IDX_SHIFT = ACC_W - LOG2N` (R7). -/
def idxShift : Nat := accW - log2TableLen
/-- `SAMPLE_W` (R7). -/
def sampleW : Nat := 12
/-- `CENTER`, the zero-centre offset (R7). -/
def center : Nat := 2048
/-- `NSHAPES` (R7). -/
def nShapes : Nat := 5
/-- `DEPTH_W` (R7). -/
def depthW : Nat := 8
/-- `DEPTH_SHIFT` (R7). -/
def depthShift : Nat := 12
/-- `DELTA_SHIFT` (R7). -/
def deltaShift : Nat := 31
/-- `OUTA_SHIFT` (R7). -/
def outAShift : Nat := 4
/-- `OUTB_SHIFT` (R7). -/
def outBShift : Nat := 5
/-- `F_CARRIER_MAX_HZ`, a bound the host applies (R7). -/
def carrierMaxHz : ℚ := 1000
/-- `F_LFO_MAX_HZ`, a bound the host applies (R7). -/
def lfoMaxHz : ℚ := 10

end Sys2Proof.Machine
end

