-- ==== Sys2Proof/Config.lean ====
section
/-! DEFINITION. What an implementation fixes and the spec leaves open (00_scope.md R8): the wavetable contents and
the host-side parameters. Each is opaque: no proof can see a value of it. -/

namespace Sys2Proof

/-- The five wave shapes, in the order of their numbers 0 to 4 (30_encoding.md R79; 40_wavetable_bank.md R100:
"a model's type for s has five values"; log 7). -/
inductive WaveShape where
  | sine | triangle | square | sawDown | sawUp
deriving DecidableEq, Repr, Inhabited

/-- The contents of the wavetable bank: a sample for each shape and index (40_wavetable_bank.md R100, R103). That every
value lies in [0, 4095] is the type. -/
abbrev WaveTable := WaveShape → Index → Sample

/-- `WT`, the device's own tables, fixed for its life (00_scope.md R8, 20_memory.md R62; log 6). -/
opaque Config.wt : WaveTable

/-- `TICK_LATENCY`, clock cycles from the timer event to `tick_ack`: a positive integer (00_scope.md R8). That it is less
than the tick period is the platform's contract, `latencyBudgetMet` of Safety (70_reset_and_hazards.md R240). No step
reads it (log 18). -/
opaque Config.tickLatency : ℕ+

/-- The host-side parameters with the constraints of 00_scope.md R8: a positive sample rate, greater than every default
frequency, and defaults within the bounds of R7. `DEFAULT_DEPTH` and the default shapes are in range by their types. The
values written here only show that the type has a member; nothing is known of the device's (log 18). -/
structure HostParams where
  sampleRateHz : ℚ := 1
  carrierHz : ℚ := 0
  lfoHz : ℚ := 0
  depth : Depth
  cshape : WaveShape
  lshape : WaveShape
  rate_pos : 0 < sampleRateHz := by norm_num
  carrier_nonneg : 0 ≤ carrierHz := by norm_num
  carrier_le : carrierHz ≤ Machine.carrierMaxHz := by norm_num [Machine.carrierMaxHz]
  carrier_lt_rate : carrierHz < sampleRateHz := by norm_num
  lfo_nonneg : 0 ≤ lfoHz := by norm_num
  lfo_le : lfoHz ≤ Machine.lfoMaxHz := by norm_num [Machine.lfoMaxHz]
  lfo_lt_rate : lfoHz < sampleRateHz := by norm_num
deriving DecidableEq, Repr, Inhabited

/-- This device's host-side parameters (R8), of which only the constraints are known. -/
opaque Config.hostParams : HostParams

/-- `SAMPLE_RATE_HZ` (R8), used by the host's frequency mapper only. -/
def Config.sampleRateHz : ℚ := Config.hostParams.sampleRateHz

/-- `DEFAULT_CARRIER_HZ` (R8). -/
def Config.defaultCarrierHz : ℚ := Config.hostParams.carrierHz

/-- `DEFAULT_LFO_HZ` (R8). -/
def Config.defaultLfoHz : ℚ := Config.hostParams.lfoHz

/-- `DEFAULT_DEPTH` (R8). -/
def Config.defaultDepth : Depth := Config.hostParams.depth

/-- `DEFAULT_CSHAPE` (R8). -/
def Config.defaultCshape : WaveShape := Config.hostParams.cshape

/-- `DEFAULT_LSHAPE` (R8). -/
def Config.defaultLshape : WaveShape := Config.hostParams.lshape

end Sys2Proof
end

