-- ==== Sys2Proof/Syntax.lean ====
section
/-! DEFINITION. The instructions: one constructor per row of spec/opcode_table.json (30_encoding.md R84). -/

namespace Sys2Proof

/-- The mapped registers of the register space (30_encoding.md R72). -/
inductive Reg where
  | ctrl | status | ctw | ltw | depth | cshape | lshape | sel
  | cphase | lphase | delta | outA | outB | csamp | lsamp
deriving DecidableEq, Repr

/-- One step of one agent that the opcode table names: 23 host commands and the three events. `d` is the whole 32-bit
`DATA` field, used as it stands (30_encoding.md R74). -/
inductive Instr where
  | nop
  | wrCtrl (d : Word)
  | wrCtw (d : Word)
  | wrLtw (d : Word)
  | wrDepth (d : Word)
  | wrCshape (d : Word)
  | wrLshape (d : Word)
  | wrSel (d : Word)
  | rdCtrl
  | rdStatus
  | rdCtw
  | rdLtw
  | rdDepth
  | rdCshape
  | rdLshape
  | rdSel
  | rdCphase
  | rdLphase
  | rdDelta
  | rdOuta
  | rdOutb
  | rdCsamp
  | rdLsamp
  | evtTimer
  | evtEngine
  | evtReset
deriving DecidableEq, Repr

/-- The agents that act on the block (00_scope.md R12; the "agent" of each row of spec/opcode_table.json). -/
inductive Agent where
  | host | timer | engine | reset
deriving DecidableEq, Repr

/-- The agent whose step an instruction is (R12). -/
def Instr.agent : Instr → Agent
  | .nop | .wrCtrl _ | .wrCtw _ | .wrLtw _ | .wrDepth _ | .wrCshape _ | .wrLshape _ | .wrSel _
  | .rdCtrl | .rdStatus | .rdCtw | .rdLtw | .rdDepth | .rdCshape | .rdLshape | .rdSel | .rdCphase | .rdLphase
  | .rdDelta | .rdOuta | .rdOutb | .rdCsamp | .rdLsamp => .host
  | .evtTimer => .timer
  | .evtEngine => .engine
  | .evtReset => .reset

end Sys2Proof
end

