-- ==== Sys2Proof/Machine/State.lean ====
section
/-! DEFINITION. The state of the machine (10_state.md R20, R35), its reset value (R38), and the reasons a step can
stop. The block has no writable memory (20_memory.md R53), no program counter (R23) and no mode (60_exceptions.md
R213), so the state holds none. -/

namespace Sys2Proof.Machine

/-- The block's own state: exactly the elements of 10_state.md R20 and the output history of R35. -/
structure Block where
  /-- `CPHASE`, the Carrier phase accumulator (R21). -/
  cphase : Word
  /-- `LPHASE`, the LFO phase accumulator (R21). -/
  lphase : Word
  /-- `CTW`, the Carrier tuning word (R26). -/
  ctw : Word
  /-- `LTW`, the LFO tuning word (R27). -/
  ltw : Word
  /-- `DEPTH`, the modulation depth (R28). -/
  depth : Depth
  /-- `CSHAPE`, the Carrier's shape (R29). -/
  cshape : WaveShape
  /-- `LSHAPE`, the LFO's shape (R30). -/
  lshape : WaveShape
  /-- `SELPREV`, the last selector levels (R31, R35): bit 0 the Carrier's, bit 1 the LFO's. -/
  selPrev : BitVec 2
  /-- `RUN`, `CTRL[0]` (R25). -/
  run : Bool
  /-- `TICKPEND`, `STATUS[0]` (R24). -/
  tickPend : Bool
  /-- `OVERRUN`, `STATUS[1]`, sticky (R24). -/
  overrun : Bool
  /-- `CFGERR`, `STATUS[2]`, sticky (R24). -/
  cfgErr : Bool
  /-- `BADCMD`, `STATUS[3]`, sticky (R24). -/
  badCmd : Bool
  /-- `BUDGET`, `STATUS[4]`, sticky (R24). -/
  budget : Bool
  /-- `DELTA`, the two's-complement image of the signed modulation delta (R32; 00_scope.md R9; log 8). -/
  delta : Word
  /-- `CSAMP`, the latched Carrier sample (R33). -/
  csamp : Sample
  /-- `LSAMP`, the latched LFO sample (R33). -/
  lsamp : Sample
  /-- `OUTA`, the primary output, also the pins `dac_a` (R34). -/
  outA : BitVec 8
  /-- `OUTB`, the monitor output, also the pins `dac_b` (R34). -/
  outB : BitVec 7
  /-- The output history, oldest pair first (R35; 44_output_stage.md R154). -/
  history : List (BitVec 8 × BitVec 7)
deriving DecidableEq, Repr

/-- A response on the response port: `rsp_err` and `rsp_data` (30_encoding.md R76). -/
structure Response where
  err : Bool
  data : Word
deriving DecidableEq, Repr

/-- What one step shows on the output pins that are not registers (30_encoding.md R70; log 2). -/
structure Pins where
  /-- `rsp_valid`, `rsp_err`, `rsp_data`: the response of the step, if it was a host command. -/
  rsp : Option Response
  /-- The pulse on `tick_ack`. -/
  tickAck : Bool
  /-- The pulse on `dac_strobe`. -/
  dacStrobe : Bool
deriving DecidableEq, Repr

/-- What arrives next at the block's boundary (10_state.md R23), one word for one step (30_encoding.md R77; log 1). -/
inductive Arrival where
  /-- A step of any agent, written as a trace word (R77). -/
  | traceWord (w : CmdWord)
  /-- A word presented on the `cmd` pins, `KIND = 3` included (R75, R187). -/
  | portWord (w : CmdWord)
  /-- A reset cycle in which a word is also presented on the `cmd` pins (70_reset_and_hazards.md R230; log 15). -/
  | portWordUnderReset (w : CmdWord)
deriving DecidableEq, Repr

/-- The machine: the block, the pins as the last step left them, and what is still to arrive. -/
structure State where
  block : Block
  /-- What the last step showed on the pins (log 2). -/
  out : Pins
  /-- What is still to arrive, oldest first (log 1). DESIGN CHOICE: a finite list, where 20_memory.md R58 does not say whether
  an execution is finite or endless; one with endlessly many arrivals is seen only through its finite prefixes (log 26). -/
  schedule : List Arrival
deriving DecidableEq, Repr

/-- Why the machine stops: the two situations the spec gives no behaviour. -/
inductive Fault where
  /-- Raised by `EVT.ENGINE` where `TICKPEND = 0`: the engine step is not enabled and the trace is ill formed
  (43_modulation_engine.md R132, 30_encoding.md R78). Safe: the hardware does nothing of the kind (log 4). -/
  | engineNotEnabled
  /-- Raised by the step at a word with `KIND = 3` that is no event (30_encoding.md R77). Safe: such a word denotes no
  step of the hardware (log 5). -/
  | illFormedTraceWord
deriving DecidableEq, Repr

/-- Why an instruction has no meaning. -/
inductive Refusal where
  /-- Raised by `exec` for an instruction that is not modelled; none is left. Safe: the model stops. -/
  | notModelled (mnemonic : String)
deriving DecidableEq, Repr

/-- The reset values of the block (10_state.md R38). -/
def Block.reset : Block where
  cphase := 0
  lphase := 0
  ctw := 0
  ltw := 0
  depth := 0
  cshape := .sine
  lshape := .sine
  selPrev := 0
  run := false
  tickPend := false
  overrun := false
  cfgErr := false
  badCmd := false
  budget := false
  delta := 0
  csamp := 2048
  lsamp := 2048
  outA := 128
  outB := 64
  history := []

/-- No response and no pulse. -/
def Pins.quiet : Pins := { rsp := none, tickAck := false, dacStrobe := false }

/-- The machine right after reset, with nothing scheduled (10_state.md R38; logs 2, 10, 12). -/
def State.reset : State := { block := Block.reset, out := Pins.quiet, schedule := [] }

/-- What a step leaves behind: a new block and what it showed on the pins; the schedule is the environment's. -/
def State.finish (s : State) (b : Block) (p : Pins) : State := { s with block := b, out := p }

/-- The outcome of a step of this machine. -/
abbrev Result := Host.Outcome State Fault Refusal

end Sys2Proof.Machine
end

