-- ==== Sys2Proof/Machine/Flags.lean ====
section
/-! DEFINITION. The fault flags: raising one, the `STATUS` word, and the one flag that is computed from a value
(60_exceptions.md R201, R202; 10_state.md R24; 43_modulation_engine.md R138). -/

namespace Sys2Proof.Machine

/-- The four faults (60_exceptions.md R202). -/
inductive FaultFlag where
  | overrun | cfgErr | badCmd | budget
deriving DecidableEq, Repr

/-- The cause code of a fault: its bit number in `STATUS` (R202). -/
def faultCode : FaultFlag → Nat
  | .overrun => 1
  | .cfgErr => 2
  | .badCmd => 3
  | .budget => 4

/-- Is the flag set? -/
def faultSet (f : FaultFlag) (b : Block) : Bool :=
  match f with
  | .overrun => b.overrun
  | .cfgErr => b.cfgErr
  | .badCmd => b.badCmd
  | .budget => b.budget

/-- `raise F`: set the flag, and nothing else; the block has no trap (R200, R201). -/
def raise (f : FaultFlag) (b : Block) : Block :=
  match f with
  | .overrun => { b with overrun := true }
  | .cfgErr => { b with cfgErr := true }
  | .badCmd => { b with badCmd := true }
  | .budget => { b with budget := true }

/-- `raise F` under a condition: the flag keeps its 1 or takes the condition (R201). -/
def raiseIf (c : Bool) (f : FaultFlag) (b : Block) : Block :=
  match f with
  | .overrun => { b with overrun := b.overrun || c }
  | .cfgErr => { b with cfgErr := b.cfgErr || c }
  | .badCmd => { b with badCmd := b.badCmd || c }
  | .budget => { b with budget := b.budget || c }

/-- The `STATUS` word: 27 zeros, `BUDGET`, `BADCMD`, `CFGERR`, `OVERRUN`, `TICKPEND` (10_state.md R24; 45_host_commands.md
R171). -/
def statusWord (b : Block) : Word :=
  0#27 ++ BitVec.ofBool b.budget ++ BitVec.ofBool b.badCmd ++ BitVec.ofBool b.cfgErr ++ BitVec.ofBool b.overrun
    ++ BitVec.ofBool b.tickPend

/-- `wrap_s32(q)`, as the register image of the wrapped value: the low 32 bits of `q` (00_scope.md R9). -/
def wrapS32 (q : Int) : Word := BitVec.ofInt 32 q

/-- Does `q` violate the bit budget: is `wrap_s32(q)` another number than `q` (43_modulation_engine.md R138)? -/
def budgetViolated (q : Int) : Bool := decide ((wrapS32 q).toInt ≠ q)

end Sys2Proof.Machine
end

