-- ==== Sys2Proof/Machine/Operands.lean ====
section
/-! DEFINITION. How `DATA` is taken by each register, and the codes of the shapes (30_encoding.md R74, R79; 10_state.md
R25 to R31). The whole 32-bit value is compared with the legal range; upper bits are never dropped (D40). -/

namespace Sys2Proof.Machine

/-- The number of a shape (30_encoding.md R79). -/
def shapeCode : WaveShape → BitVec 3
  | .sine => 0
  | .triangle => 1
  | .square => 2
  | .sawDown => 3
  | .sawUp => 4

/-- The shape with a number, or none for a number above 4 (R79). -/
def shapeOfCode (n : Nat) : Option WaveShape :=
  match n with
  | 0 => some .sine
  | 1 => some .triangle
  | 2 => some .square
  | 3 => some .sawDown
  | 4 => some .sawUp
  | _ => none

/-- `CTRL` takes 0 or 1: the written bit 0 (10_state.md R25). -/
def ctrlData (d : Word) : Option Bool := if d.toNat ≤ 1 then some (d.getLsbD 0) else none

/-- `DEPTH` takes 0 to 255: `d[7:0]` (10_state.md R28). -/
def depthData (d : Word) : Option Depth := if d.toNat ≤ 255 then some (d.extractLsb' 0 8) else none

/-- `CSHAPE` and `LSHAPE` take 0 to 4 (10_state.md R29, R30). -/
def shapeData (d : Word) : Option WaveShape := shapeOfCode d.toNat

/-- `SEL` takes 0 to 3: the two levels `d[1:0]` (10_state.md R31). -/
def selData (d : Word) : Option (BitVec 2) := if d.toNat ≤ 3 then some (d.extractLsb' 0 2) else none

/-- The value of a narrow field as a read returns it, zero-extended to 32 bits (30_encoding.md R74). -/
def zext32 {n : Nat} (v : BitVec n) : Word := v.setWidth 32

end Sys2Proof.Machine
end

