-- ==== Sys2Proof/Machine/Ops.lean ====
section
/-! DEFINITION. The named operations: the wavetable bank (20_memory.md, 40_wavetable_bank.md), the oscillator
(41_oscillator.md), the fixed-point multiplier (43_modulation_engine.md), the output stage (44_output_stage.md), the
selector (45_host_commands.md R168, R169), the register space (10_state.md R39) and the response (30_encoding.md R76).
The block takes no trap (60_exceptions.md R200): `raise` of Flags is all a fault does, entering the engine step saves
nothing and leaving it is `acknowledge` (R211, R212). -/

namespace Sys2Proof.Machine

/-! ### The wavetable bank -/

/-- The ROM address `shape * 1024 + index`, that is `shape[2:0]` then `index[9:0]` (20_memory.md R52). -/
def romAddr (sh : WaveShape) (i : Index) : RomAddr := shapeCode sh ++ i

/-- `MemRead(a, 12)`: the sample at a mapped ROM address, and no value at 5120 and above, where it is not defined
(20_memory.md R52; log 17). -/
def memRead (wt : WaveTable) (a : RomAddr) : Option Sample :=
  (shapeOfCode (a.extractLsb' 10 3).toNat).map fun sh => wt sh (a.extractLsb' 0 10)

/-- `WtRead(s, i)` (40_wavetable_bank.md R101). -/
def wtRead (wt : WaveTable) (sh : WaveShape) (i : Index) : Sample := wt sh i

/-! ### The oscillator -/

/-- `Advance(acc, inc)`: the sum modulo 2^32, for any integer increment (41_oscillator.md R110). -/
def advance (acc : Word) (inc : Int) : Word := BitVec.ofInt 32 ((acc.toNat : Int) + inc)

/-- `Index(acc)`: the top 10 bits of the phase (41_oscillator.md R111). -/
def index (acc : Word) : Index := (acc >>> idxShift).setWidth 10

/-- `Sample(acc, s)` (41_oscillator.md R112). -/
def sampleAt (wt : WaveTable) (acc : Word) (sh : WaveShape) : Sample := wtRead wt sh (index acc)

/-! ### The fixed-point multiplier -/

/-- The arithmetic right shift: the floor of the quotient by 2^k (00_scope.md R9; Lean's `/` by a positive number). -/
def asr (x : Int) (k : Nat) : Int := x / (2 ^ k : Int)

/-- The signed LFO value (43_modulation_engine.md R134). -/
def signedSample (ls : Sample) : Int := (ls.toNat : Int) - (center : Int)

/-- The depth widened to 20 bits (R135). -/
def depthScale (depth : Depth) : Int := (depth.toNat : Int) * (2 ^ depthShift : Int)

/-- The 32-bit product, exact (R135; log 24). -/
def product32 (ls : Sample) (depth : Depth) : Int := signedSample ls * depthScale depth

/-- The 64-bit product, exact (R136; log 24). -/
def product64 (ls : Sample) (depth : Depth) (ctw : Word) : Int := product32 ls depth * (ctw.toNat : Int)

/-- The shifted product `q`, the delta before wrapping (R136). -/
def shiftedProduct (ls : Sample) (depth : Depth) (ctw : Word) : Int := asr (product64 ls depth ctw) deltaShift

/-- `ModDelta(ls, depth, ctw)`, as the register image of the signed delta (R137). -/
def modDelta (ls : Sample) (depth : Depth) (ctw : Word) : Word := wrapS32 (shiftedProduct ls depth ctw)

/-! ### The output stage -/

/-- `RescaleA(cs)` (44_output_stage.md R150). -/
def rescaleA (cs : Sample) : BitVec 8 := (cs >>> outAShift).setWidth 8

/-- `RescaleB(ls)` (44_output_stage.md R151). -/
def rescaleB (ls : Sample) : BitVec 7 := (ls >>> outBShift).setWidth 7

/-- `emit`: append the pair to the output history; the strobe is in the step's pins (44_output_stage.md R154). -/
def emit (a : BitVec 8) (p : BitVec 7) (b : Block) : Block := { b with history := b.history ++ [(a, p)] }

/-- Sub-step 8: the timer condition is cleared; `tick_ack` is in the step's pins (43_modulation_engine.md R145). -/
def acknowledge (b : Block) : Block := { b with tickPend := false }

/-! ### The selector -/

/-- `ShapeStep(s) = (s + 1) mod 5` (45_host_commands.md R169). -/
def shapeStep : WaveShape → WaveShape
  | .sine => .triangle
  | .triangle => .square
  | .square => .sawDown
  | .sawDown => .sawUp
  | .sawUp => .sine

/-- Does level `k` go from inactive to active (45_host_commands.md R168)? -/
def risingEdge (before now : BitVec 2) (k : Nat) : Bool := !before.getLsbD k && now.getLsbD k

/-- The selector event: each shape whose level rises steps once, and the levels are kept (45_host_commands.md R168). -/
def selectorEvent (b : Block) (now : BitVec 2) : Block :=
  { b with
    cshape := if risingEdge b.selPrev now 0 then shapeStep b.cshape else b.cshape
    lshape := if risingEdge b.selPrev now 1 then shapeStep b.lshape else b.lshape
    selPrev := now }

/-! ### The register space and the response port -/

/-- The value a read of a register returns (10_state.md R39; 45_host_commands.md R170 to R184). -/
def regRead (r : Reg) (b : Block) : Word :=
  match r with
  | .ctrl => zext32 (BitVec.ofBool b.run)
  | .status => statusWord b
  | .ctw => b.ctw
  | .ltw => b.ltw
  | .depth => zext32 b.depth
  | .cshape => zext32 (shapeCode b.cshape)
  | .lshape => zext32 (shapeCode b.lshape)
  | .sel => zext32 b.selPrev
  | .cphase => b.cphase
  | .lphase => b.lphase
  | .delta => b.delta
  | .outA => zext32 b.outA
  | .outB => zext32 b.outB
  | .csamp => zext32 b.csamp
  | .lsamp => zext32 b.lsamp

/-- The pins of a host command: one response and no pulse (30_encoding.md R76). -/
def answerPins (r : Response) : Pins := { rsp := some r, tickAck := false, dacStrobe := false }

/-- A host command that is accepted: the new block and `respond(ok, v)` (R76). -/
def respondOk (s : State) (b : Block) (v : Word) : Result :=
  .next (s.finish b (answerPins { err := false, data := v }))

/-- A host command that is refused: it raises one flag, changes nothing else, and answers `respond(err, 0)` (R76,
45_host_commands.md R160). -/
def respondErr (s : State) (f : FaultFlag) : Result :=
  .next (s.finish (raise f s.block) (answerPins { err := true, data := 0 }))

/-- A write command: with legal data the register's effect, else the write is refused whole with `CFGERR`
(60_exceptions.md R204). -/
def writeCommand {α : Type} (data : Option α) (effect : α → Block → Block) (s : State) : Result :=
  match data with
  | some v => respondOk s (effect v s.block) 0
  | none => respondErr s .cfgErr

/-- A read command: the register's value, and no change of the block (45_host_commands.md section 4). -/
def readCommand (r : Reg) (s : State) : Result := respondOk s s.block (regRead r s.block)

/-- A step that is no host command and shows nothing on the pins. -/
def silentStep (s : State) (b : Block) : Result := .next (s.finish b Pins.quiet)

end Sys2Proof.Machine
end

