-- ==== Sys2Proof/Machine/Engine.lean ====
section
/-! DEFINITION. The three events: the timer event, the engine step and the reset event (43_modulation_engine.md R131 to
R133, 70_reset_and_hazards.md R230). The engine step takes the tables as an argument, so that tests can run it on the
reference contents; the machine's own step uses `Config.wt`. -/

namespace Sys2Proof.Machine

/-- `TimerEvent` on the block (R131). -/
def timerEvent (b : Block) : Block :=
  if !b.run then b
  else if b.tickPend then raise .overrun b
  else { b with tickPend := true }

/-- Sub-step 1: the LFO phase after its advance (R133). -/
def engineLphase (b : Block) : Word := advance b.lphase (b.ltw.toNat : Int)

/-- Sub-step 2: the LFO sample at the new phase (R133). -/
def engineLsamp (wt : WaveTable) (b : Block) : Sample := sampleAt wt (engineLphase b) b.lshape

/-- Sub-steps 2 to 4: the shifted product `q` (R133). -/
def engineShifted (wt : WaveTable) (b : Block) : Int := shiftedProduct (engineLsamp wt b) b.depth b.ctw

/-- Sub-step 4: the modulation delta (R133, R137). -/
def engineDelta (wt : WaveTable) (b : Block) : Word := modDelta (engineLsamp wt b) b.depth b.ctw

/-- Sub-step 5: the Carrier phase after its advance by tuning word plus signed delta (R133, R140). -/
def engineCphase (wt : WaveTable) (b : Block) : Word :=
  advance b.cphase ((b.ctw.toNat : Int) + (engineDelta wt b).toInt)

/-- Sub-step 6: the Carrier sample at the new phase (R133). -/
def engineCsamp (wt : WaveTable) (b : Block) : Sample := sampleAt wt (engineCphase wt b) b.cshape

/-- Sub-step 7: what the output stage latches (R133, 44_output_stage.md R153). -/
def engineLatch (wt : WaveTable) (b : Block) : Block :=
  { b with
    lphase := engineLphase b
    cphase := engineCphase wt b
    lsamp := engineLsamp wt b
    csamp := engineCsamp wt b
    delta := engineDelta wt b
    outA := rescaleA (engineCsamp wt b)
    outB := rescaleB (engineLsamp wt b) }

/-- `EngineStep` on the block (R133): latch, raise `BUDGET` where `q` does not fit, emit the pair, acknowledge. -/
def engineStep (wt : WaveTable) (b : Block) : Block :=
  acknowledge (emit (rescaleA (engineCsamp wt b)) (rescaleB (engineLsamp wt b))
    (raiseIf (budgetViolated (engineShifted wt b)) .budget (engineLatch wt b)))

/-- The pins of the engine step: `dac_strobe` and `tick_ack` are pulsed, nothing is answered (30_encoding.md R70). -/
def enginePins : Pins := { rsp := none, tickAck := true, dacStrobe := true }

/-- `EVT.TIMER` (R131). -/
def execEvtTimer (s : State) : Result := silentStep s (timerEvent s.block)

/-- `EVT.ENGINE` (R133). Where `TICKPEND = 0` the step is not enabled and the trace has no meaning (R132, 30_encoding.md
R78; log 4). -/
def execEvtEngine (s : State) : Result :=
  match s.block.tickPend with
  | true => .next (s.finish (engineStep Config.wt s.block) enginePins)
  | false => .fault .engineNotEnabled

/-- `EVT.RESET` (70_reset_and_hazards.md R230): every element takes its reset value; `tick_ack` is not pulsed. What is
still to arrive is the environment's and stays (log 14). -/
def execEvtReset (s : State) : Result := silentStep s Block.reset

end Sys2Proof.Machine
end

