-- ==== Sys2Proof/Machine/HostReads.lean ====
section
/-! DEFINITION. The fifteen read commands (45_host_commands.md R170 to R184): no operand, no side effect, no flag. -/

namespace Sys2Proof.Machine

/-- `RD.CTRL` (R170). -/
def execRdCtrl (s : State) : Result := readCommand .ctrl s

/-- `RD.STATUS` (R171). -/
def execRdStatus (s : State) : Result := readCommand .status s

/-- `RD.CTW` (R172). -/
def execRdCtw (s : State) : Result := readCommand .ctw s

/-- `RD.LTW` (R173). -/
def execRdLtw (s : State) : Result := readCommand .ltw s

/-- `RD.DEPTH` (R174). -/
def execRdDepth (s : State) : Result := readCommand .depth s

/-- `RD.CSHAPE` (R175). -/
def execRdCshape (s : State) : Result := readCommand .cshape s

/-- `RD.LSHAPE` (R176). -/
def execRdLshape (s : State) : Result := readCommand .lshape s

/-- `RD.SEL` (R177). -/
def execRdSel (s : State) : Result := readCommand .sel s

/-- `RD.CPHASE` (R178). -/
def execRdCphase (s : State) : Result := readCommand .cphase s

/-- `RD.LPHASE` (R179). -/
def execRdLphase (s : State) : Result := readCommand .lphase s

/-- `RD.DELTA` (R180). -/
def execRdDelta (s : State) : Result := readCommand .delta s

/-- `RD.OUTA` (R181). -/
def execRdOuta (s : State) : Result := readCommand .outA s

/-- `RD.OUTB` (R182). -/
def execRdOutb (s : State) : Result := readCommand .outB s

/-- `RD.CSAMP` (R183). -/
def execRdCsamp (s : State) : Result := readCommand .csamp s

/-- `RD.LSAMP` (R184). -/
def execRdLsamp (s : State) : Result := readCommand .lsamp s

end Sys2Proof.Machine
end

