-- ==== Sys2Proof/Machine/HostWrites.lean ====
section
/-! DEFINITION. `NOP` and the seven write commands (45_host_commands.md R161 to R168). -/

namespace Sys2Proof.Machine

/-- `NOP` (R161). -/
def execNop (s : State) : Result := respondOk s s.block 0

/-- `WR.CTRL` (R162): 1 sets `RUN`, 0 changes nothing, a larger value is refused. -/
def execWrCtrl (d : Word) (s : State) : Result :=
  writeCommand (ctrlData d) (fun v b => { b with run := b.run || v }) s

/-- `WR.CTW` (R163): every word is a legal tuning word. -/
def execWrCtw (d : Word) (s : State) : Result :=
  writeCommand (some d) (fun v b => { b with ctw := v }) s

/-- `WR.LTW` (R164). -/
def execWrLtw (d : Word) (s : State) : Result :=
  writeCommand (some d) (fun v b => { b with ltw := v }) s

/-- `WR.DEPTH` (R165). -/
def execWrDepth (d : Word) (s : State) : Result :=
  writeCommand (depthData d) (fun v b => { b with depth := v }) s

/-- `WR.CSHAPE` (R166): `SELPREV` and the phase are not touched. -/
def execWrCshape (d : Word) (s : State) : Result :=
  writeCommand (shapeData d) (fun v b => { b with cshape := v }) s

/-- `WR.LSHAPE` (R167). -/
def execWrLshape (d : Word) (s : State) : Result :=
  writeCommand (shapeData d) (fun v b => { b with lshape := v }) s

/-- `WR.SEL` (R168). -/
def execWrSel (d : Word) (s : State) : Result :=
  writeCommand (selData d) (fun v b => selectorEvent b v) s

end Sys2Proof.Machine
end

