-- ==== Sys2Proof/Machine/Dispatch.lean ====
section
/-! DEFINITION. The dispatch: one arm per instruction. -/

namespace Sys2Proof.Machine

def exec (i : Instr) (s : State) : Host.Outcome State Fault Refusal :=
  match i with
  | .nop => Sys2Proof.Machine.execNop s
  | .wrCtrl d => Sys2Proof.Machine.execWrCtrl d s
  | .wrCtw d => Sys2Proof.Machine.execWrCtw d s
  | .wrLtw d => Sys2Proof.Machine.execWrLtw d s
  | .wrDepth d => Sys2Proof.Machine.execWrDepth d s
  | .wrCshape d => Sys2Proof.Machine.execWrCshape d s
  | .wrLshape d => Sys2Proof.Machine.execWrLshape d s
  | .wrSel d => Sys2Proof.Machine.execWrSel d s
  | .rdCtrl => Sys2Proof.Machine.execRdCtrl s
  | .rdStatus => Sys2Proof.Machine.execRdStatus s
  | .rdCtw => Sys2Proof.Machine.execRdCtw s
  | .rdLtw => Sys2Proof.Machine.execRdLtw s
  | .rdDepth => Sys2Proof.Machine.execRdDepth s
  | .rdCshape => Sys2Proof.Machine.execRdCshape s
  | .rdLshape => Sys2Proof.Machine.execRdLshape s
  | .rdSel => Sys2Proof.Machine.execRdSel s
  | .rdCphase => Sys2Proof.Machine.execRdCphase s
  | .rdLphase => Sys2Proof.Machine.execRdLphase s
  | .rdDelta => Sys2Proof.Machine.execRdDelta s
  | .rdOuta => Sys2Proof.Machine.execRdOuta s
  | .rdOutb => Sys2Proof.Machine.execRdOutb s
  | .rdCsamp => Sys2Proof.Machine.execRdCsamp s
  | .rdLsamp => Sys2Proof.Machine.execRdLsamp s
  | .evtTimer => Sys2Proof.Machine.execEvtTimer s
  | .evtEngine => Sys2Proof.Machine.execEvtEngine s
  | .evtReset => Sys2Proof.Machine.execEvtReset s

end Sys2Proof.Machine
end

