-- ==== Sys2Proof/Decode.lean ====
section
/-! DEFINITION. The decoder of command words and trace words, total on all 2^40 words (30_encoding.md R75, R77), and
the encoder written from the same tables (R71, R72, R84). -/

namespace Sys2Proof

/-- What a word decodes to. A class that is not an instruction has its own name: the first three are executed
(45_host_commands.md R185 to R187), the last has no meaning (30_encoding.md R77, R78). -/
inductive Decoded where
  /-- A row of the opcode table. -/
  | instr (i : Instr)
  /-- A reserved word (R187). -/
  | reserved
  /-- A write to a read-only register (R185). -/
  | writeToReadOnly (r : Reg)
  /-- A read or write of register number 15 (R186). -/
  | unmapped
  /-- A word with `KIND = 3` that is none of the three events (R77). -/
  | notTraceWord
deriving DecidableEq, Repr

/-- `KIND`, bits 39:38 (R71). -/
def kindField (w : CmdWord) : BitVec 2 := w.extractLsb' 38 2

/-- `RSV`, bits 37:36 (R71). -/
def rsvField (w : CmdWord) : BitVec 2 := w.extractLsb' 36 2

/-- `REG`, bits 35:32 (R71). -/
def regField (w : CmdWord) : BitVec 4 := w.extractLsb' 32 4

/-- `DATA`, bits 31:0 (R71). -/
def dataField (w : CmdWord) : Word := w.extractLsb' 0 32

/-- The register with a number, or none for the unmapped number 15 (R72). -/
def regOfNumber (n : BitVec 4) : Option Reg :=
  match n.toNat with
  | 0 => some .ctrl
  | 1 => some .status
  | 2 => some .ctw
  | 3 => some .ltw
  | 4 => some .depth
  | 5 => some .cshape
  | 6 => some .lshape
  | 7 => some .sel
  | 8 => some .cphase
  | 9 => some .lphase
  | 10 => some .delta
  | 11 => some .outA
  | 12 => some .outB
  | 13 => some .csamp
  | 14 => some .lsamp
  | _ => none

/-- The number of a register (R72). -/
def regNumber : Reg → BitVec 4
  | .ctrl => 0#4
  | .status => 1#4
  | .ctw => 2#4
  | .ltw => 3#4
  | .depth => 4#4
  | .cshape => 5#4
  | .lshape => 6#4
  | .sel => 7#4
  | .cphase => 8#4
  | .lphase => 9#4
  | .delta => 10#4
  | .outA => 11#4
  | .outB => 12#4
  | .csamp => 13#4
  | .lsamp => 14#4

/-- The write command of a register, or its refusal where the register is read only (R75, R185). -/
def writeOf (r : Reg) (d : Word) : Decoded :=
  match r with
  | .ctrl => .instr (.wrCtrl d)
  | .ctw => .instr (.wrCtw d)
  | .ltw => .instr (.wrLtw d)
  | .depth => .instr (.wrDepth d)
  | .cshape => .instr (.wrCshape d)
  | .lshape => .instr (.wrLshape d)
  | .sel => .instr (.wrSel d)
  | .status | .cphase | .lphase | .delta | .outA | .outB | .csamp | .lsamp => .writeToReadOnly r

/-- The read command of a register: every mapped register is readable (R75). -/
def readOf : Reg → Instr
  | .ctrl => .rdCtrl
  | .status => .rdStatus
  | .ctw => .rdCtw
  | .ltw => .rdLtw
  | .depth => .rdDepth
  | .cshape => .rdCshape
  | .lshape => .rdLshape
  | .sel => .rdSel
  | .cphase => .rdCphase
  | .lphase => .rdLphase
  | .delta => .rdDelta
  | .outA => .rdOuta
  | .outB => .rdOutb
  | .csamp => .rdCsamp
  | .lsamp => .rdLsamp

/-- The decoder of the command port, total on all words; the first case that matches (R75). -/
def decodePort (w : CmdWord) : Decoded :=
  if rsvField w ≠ 0#2 then .reserved
  else if kindField w = 0b00#2 then
    if regField w = 0#4 ∧ dataField w = 0#32 then .instr .nop else .reserved
  else if kindField w = 0b01#2 then
    match regOfNumber (regField w) with
    | some r => writeOf r (dataField w)
    | none => .unmapped
  else if kindField w = 0b10#2 then
    if dataField w ≠ 0#32 then .reserved
    else
      match regOfNumber (regField w) with
      | some r => .instr (readOf r)
      | none => .unmapped
  else .reserved

/-- The decoder of trace words: the three events, no other word with `KIND = 3`, and every other word as on the command
port (R77). -/
def decodeTrace (w : CmdWord) : Decoded :=
  if kindField w = 0b11#2 then
    if w = 0xC000000000#40 then .instr .evtTimer
    else if w = 0xC100000000#40 then .instr .evtEngine
    else if w = 0xC200000000#40 then .instr .evtReset
    else .notTraceWord
  else decodePort w

/-- A word from its four fields (R71). -/
def packWord (kind rsv : BitVec 2) (reg : BitVec 4) (data : Word) : CmdWord :=
  kind ++ rsv ++ reg ++ data

/-- `wr r, d` (R71: `0x4r` followed by the data). -/
def encodeWrite (r : Reg) (d : Word) : CmdWord := packWord 0b01#2 0#2 (regNumber r) d

/-- `rd r` (R71: `0x8r00000000`). -/
def encodeRead (r : Reg) : CmdWord := packWord 0b10#2 0#2 (regNumber r) 0#32

/-- The trace word of event number `n` (R77). -/
def encodeEvent (n : BitVec 4) : CmdWord := packWord 0b11#2 0#2 n 0#32

/-- The word of an instruction (R84). -/
def encode : Instr → CmdWord
  | .nop => packWord 0b00#2 0#2 0#4 0#32
  | .wrCtrl d => encodeWrite .ctrl d
  | .wrCtw d => encodeWrite .ctw d
  | .wrLtw d => encodeWrite .ltw d
  | .wrDepth d => encodeWrite .depth d
  | .wrCshape d => encodeWrite .cshape d
  | .wrLshape d => encodeWrite .lshape d
  | .wrSel d => encodeWrite .sel d
  | .rdCtrl => encodeRead .ctrl
  | .rdStatus => encodeRead .status
  | .rdCtw => encodeRead .ctw
  | .rdLtw => encodeRead .ltw
  | .rdDepth => encodeRead .depth
  | .rdCshape => encodeRead .cshape
  | .rdLshape => encodeRead .lshape
  | .rdSel => encodeRead .sel
  | .rdCphase => encodeRead .cphase
  | .rdLphase => encodeRead .lphase
  | .rdDelta => encodeRead .delta
  | .rdOuta => encodeRead .outA
  | .rdOutb => encodeRead .outB
  | .rdCsamp => encodeRead .csamp
  | .rdLsamp => encodeRead .lsamp
  | .evtTimer => encodeEvent 0#4
  | .evtEngine => encodeEvent 1#4
  | .evtReset => encodeEvent 2#4

/-- The 40-bit word whose bits are the low `nbits` bits of `w`, the rest 0. One instruction is one word and byte order
is not observable (20_memory.md R54, 30_encoding.md R81), so the table's bit numbers are the word's own (log 11). -/
def tableWord (nbits w : Nat) : CmdWord := BitVec.ofNat 40 (w % 2 ^ nbits)

/-- The instruction the trace decoder reads from a table row's word, or none where it reads none. A row wider than one
word is no row of this table. -/
def decodeTableWord (nbits w : Nat) : Option Instr :=
  if nbits ≤ 40 then
    match decodeTrace (tableWord nbits w) with
    | .instr i => some i
    | .reserved | .writeToReadOnly _ | .unmapped | .notTraceWord => none
  else none

end Sys2Proof
end

