-- ==== Sys2Proof/Machine/Fetch.lean ====
section
/-! DEFINITION. What the next step is: the head of the schedule, decoded (30_encoding.md R75, R77; 10_state.md R23), and
how a table row's word is placed there (logs 1, 3, 10). -/

namespace Sys2Proof.Machine

/-- The step an arrival stands for. A word presented under reset is discarded: the step is the reset event
(70_reset_and_hazards.md R230). -/
def decodeArrival : Arrival → Decoded
  | .traceWord w => decodeTrace w
  | .portWord w => decodePort w
  | .portWordUnderReset _ => .instr .evtReset

/-- The next step and the state it finds. Where nothing more arrives, a pending tick is served by the engine, which must
run eventually (43_modulation_engine.md R132; log 3), and without one there is no step. -/
def fetch (s : State) : Option Decoded × State :=
  match s.schedule with
  | a :: rest => (some (decodeArrival a), { s with schedule := rest })
  | [] => (if s.block.tickPend then some (.instr .evtEngine) else none, s)

/-- Nothing arrives: the block keeps its state and its pins show no pulse (10_state.md R23, 60_exceptions.md R218; log 3). -/
def execIdle (s : State) : Result := silentStep s s.block

/-- The block a placed word finds: as it stands, but for the engine step, which exists only after the host's start and a
timer event (43_modulation_engine.md R131, R132; log 10). -/
def readyFor (w : CmdWord) (b : Block) : Block :=
  if w = 0xC100000000#40 then { b with run := true, tickPend := true } else b

/-- Put one trace word at the head of the schedule. -/
def placeWord (w : CmdWord) (s : State) : State :=
  { s with block := readyFor w s.block, schedule := .traceWord w :: s.schedule }

end Sys2Proof.Machine
end

