-- ==== Sys2Proof/Machine/Refused.lean ====
section
/-! DEFINITION. The refused commands: words that are no row of the table and still have an effect (45_host_commands.md
R185 to R187; 30_encoding.md R80). -/

namespace Sys2Proof.Machine

/-- A write to a read-only register: `BADCMD`, whichever register it is; no register changes (R185). -/
def execWriteToReadOnly (_r : Reg) (s : State) : Result := respondErr s .badCmd

/-- A read or write of register number 15: `BADCMD` (R186). -/
def execUnmapped (s : State) : Result := respondErr s .badCmd

/-- A reserved word: `BADCMD` (R187). -/
def execReserved (s : State) : Result := respondErr s .badCmd

end Sys2Proof.Machine
end

