-- ==== Sys2Proof/Machine/Step.lean ====
section
/-! DEFINITION. One step of the machine: fetch, and the meaning of what was fetched (20_memory.md R58). -/

namespace Sys2Proof.Machine

/-- One step of one agent. -/
def step (s : State) : Host.Outcome State Fault Refusal :=
  match fetch s with
  | (some (.instr i), t) => exec i t
  | (some .reserved, t) => execReserved t
  | (some (.writeToReadOnly r), t) => execWriteToReadOnly r t
  | (some .unmapped, t) => execUnmapped t
  | (some .notTraceWord, _) => .fault .illFormedTraceWord
  | (none, t) => execIdle t

/-- `s` with one table row's word placed where `step` takes its next step (log 10). -/
def State.withFetchWord (s : State) (nbits w : Nat) : State := placeWord (tableWord nbits w) s

end Sys2Proof.Machine
end

