-- ==== Sys2Proof/Machine/FrequencyMapper.lean ====
section
/-! DEFINITION. The frequency mapper, a duty of the host and no part of the block: the function it computes before it
writes `CTW` and `LTW`, in exact rational arithmetic (42_frequency_mapper.md R120 to R127; log 16). No step of the
machine evaluates it. -/

namespace Sys2Proof.Machine

/-- Rounding to the nearest integer, a tie going up (R121). -/
def roundHalfUp (x : ℚ) : Int := Rat.floor (x + 1 / 2)

/-- The quotient the tuning word rounds (R120). -/
def tuningQuotient (F S : ℚ) : ℚ := F * 2 ^ 32 / S

/-- `TuningWord(F, S)`, or none outside its domain: `F` non-negative, `S` positive, the result below 2^32 (R120 to R122;
93 V12). -/
def tuningWord (F S : ℚ) : Option Word :=
  if 0 ≤ F ∧ 0 < S ∧ roundHalfUp (tuningQuotient F S) < 2 ^ 32 then
    some (BitVec.ofInt 32 (roundHalfUp (tuningQuotient F S)))
  else none

/-- The caller's clamp of the carrier frequency (R123). -/
def clampCarrier (F : ℚ) : ℚ := min F carrierMaxHz

/-- The caller's clamp of the LFO frequency (R123). -/
def clampLfo (F : ℚ) : ℚ := min F lfoMaxHz

/-- The frequency a tuning word stands for (R127; 10_state.md R26). -/
def frequencyOf (T : Word) (S : ℚ) : ℚ := (T.toNat : ℚ) * S / 2 ^ 32

/-- The frequency step of one unit of the tuning word (R127). -/
def frequencyResolution (S : ℚ) : ℚ := S / 2 ^ 32

/-- The number of ticks after which the phase should be back (R126). -/
def returnTicks (F S : ℚ) : Int := roundHalfUp (S / F)

/-- The signed distance from one whole wrap after those ticks (R126). -/
def returnError (T : Word) (F S : ℚ) : Int := returnTicks F S * (T.toNat : Int) - 2 ^ 32

/-- One table-index step in accumulator units (R126). -/
def indexStep : Int := 2 ^ 22

end Sys2Proof.Machine
end

