-- ==== Sys2Proof/Machine/HostDuty.lean ====
section
/-! DEFINITION. What the spec says a host does, as lists of steps: the pseudo-steps (30_encoding.md R83), the startup
sequence (70_reset_and_hazards.md R234) and the control cycle (R235). None of it is part of the block. -/

namespace Sys2Proof.Machine

/-- The pseudo-steps (30_encoding.md R83). -/
inductive PseudoStep where
  | tick (n : Nat)
  | start
  | freqC (F : ℚ)
  | freqL (F : ℚ)
  | pressC
  | pressL
deriving DecidableEq, Repr

/-- The steps a pseudo-step stands for at sample rate `S`, or none where the mapper refuses the frequency (R83). The
host clamps the frequency first. -/
def expandPseudo (S : ℚ) : PseudoStep → Option (List Instr)
  | .tick n => some (List.replicate n [Instr.evtTimer, Instr.evtEngine]).flatten
  | .start => some [.wrCtrl 1]
  | .freqC F => (tuningWord F S).map fun T => [.wrCtw T]
  | .freqL F => (tuningWord F S).map fun T => [.wrLtw T]
  | .pressC => some [.wrSel 1, .wrSel 0]
  | .pressL => some [.wrSel 2, .wrSel 0]

/-- The host's defaults (00_scope.md R8). -/
structure HostDefaults where
  sampleRateHz : ℚ
  carrierHz : ℚ
  lfoHz : ℚ
  depth : Depth
  cshape : WaveShape
  lshape : WaveShape

/-- The defaults of this device's host, of which only the constraints of 00_scope.md R8 are known (log 18). -/
def configDefaults : HostDefaults where
  sampleRateHz := Config.sampleRateHz
  carrierHz := Config.defaultCarrierHz
  lfoHz := Config.defaultLfoHz
  depth := Config.defaultDepth
  cshape := Config.defaultCshape
  lshape := Config.defaultLshape

/-- The frequencies a control cycle or the startup passes to the mapper: both clamped (42_frequency_mapper.md R123). -/
def mapperInputs (carrierHz lfoHz : ℚ) : List ℚ := [clampCarrier carrierHz, clampLfo lfoHz]

/-- The sample rate is greater than every frequency passed to the mapper (00_scope.md R8). -/
def rateCovers (S : ℚ) (passed : List ℚ) : Prop := ∀ F ∈ passed, F < S

/-- The startup sequence after reset: the clamped tuning words, the five control registers, the selector levels if a
selector may be active, then the start (70_reset_and_hazards.md R234; log 19). -/
def startupSteps (c : HostDefaults) (sel : Option (BitVec 2)) : Option (List Instr) := do
  let ct ← tuningWord (clampCarrier c.carrierHz) c.sampleRateHz
  let lt ← tuningWord (clampLfo c.lfoHz) c.sampleRateHz
  some ([.wrCtw ct, .wrLtw lt, .wrDepth (zext32 c.depth), .wrCshape (zext32 (shapeCode c.cshape)),
      .wrLshape (zext32 (shapeCode c.lshape))]
    ++ (sel.toList.map fun v => .wrSel (zext32 v)) ++ [.wrCtrl 1])

/-- One control cycle: clamp, recompute the two tuning words, write them, the depth and the debounced selector levels
(70_reset_and_hazards.md R235, R242; log 20). -/
def controlCycle (S carrierHz lfoHz : ℚ) (depth : Nat) (sel : BitVec 2) : Option (List Instr) := do
  let ct ← tuningWord (clampCarrier carrierHz) S
  let lt ← tuningWord (clampLfo lfoHz) S
  some [.wrCtw ct, .wrLtw lt, .wrDepth (BitVec.ofNat 32 (min depth 255)), .wrSel (zext32 sel)]

/-- The trace words of a list of steps (30_encoding.md R77). -/
def traceWords (is : List Instr) : List CmdWord := is.map encode

end Sys2Proof.Machine
end

