-- ==== Sys2Proof/WellFormed.lean ====
section
/-! DEFINITION. What well-formed means here. An instruction's one operand is 32 bits wide by its type, so every term of
`Instr` can be encoded (log 22). The checks that can fail are the legality of written data (10_state.md R39) and the
order of steps in a trace (30_encoding.md R78). -/

namespace Sys2Proof

/-- The written data lies in its register's legal range (10_state.md R39; 60_exceptions.md R204): what a host that keeps
its contract writes. An instruction that writes nothing has nothing to break. -/
def Instr.legalData : Instr → Bool
  | .wrCtrl d => decide (d.toNat ≤ 1)
  | .wrDepth d => decide (d.toNat ≤ 255)
  | .wrCshape d => decide (d.toNat ≤ 4)
  | .wrLshape d => decide (d.toNat ≤ 4)
  | .wrSel d => decide (d.toNat ≤ 3)
  | .wrCtw _ | .wrLtw _ | .nop | .rdCtrl | .rdStatus | .rdCtw | .rdLtw | .rdDepth | .rdCshape | .rdLshape | .rdSel
  | .rdCphase | .rdLphase | .rdDelta | .rdOuta | .rdOutb | .rdCsamp | .rdLsamp
  | .evtTimer | .evtEngine | .evtReset => true

/-- What decides whether the engine step is enabled: has the block been started, is a tick pending. -/
structure TickState where
  run : Bool
  pend : Bool
deriving DecidableEq, Repr

/-- The effect of one step on `TickState`, or none where the step is not enabled there: only the engine step has an
enabling condition, `TICKPEND = 1` (43_modulation_engine.md R131, R132; 45_host_commands.md R162;
70_reset_and_hazards.md R230). -/
def TickState.after (k : TickState) : Instr → Option TickState
  | .wrCtrl d => some { k with run := k.run || decide (d.toNat = 1) }
  | .evtTimer => some { k with pend := k.pend || k.run }
  | .evtEngine => if k.pend then some { k with pend := false } else none
  | .evtReset => some { run := false, pend := false }
  | .wrCtw _ | .wrLtw _ | .wrDepth _ | .wrCshape _ | .wrLshape _ | .wrSel _ | .nop | .rdCtrl | .rdStatus | .rdCtw
  | .rdLtw | .rdDepth | .rdCshape | .rdLshape | .rdSel | .rdCphase | .rdLphase | .rdDelta | .rdOuta | .rdOutb
  | .rdCsamp | .rdLsamp => some k

/-- A list of steps is well formed from `k`: every engine step stands where a tick is pending (30_encoding.md R78). -/
def stepsWellFormed (k : TickState) : List Instr → Bool
  | [] => true
  | i :: rest =>
    match k.after i with
    | some k' => stepsWellFormed k' rest
    | none => false

end Sys2Proof
end

