-- ==== Sys2Proof/Safety.lean ====
section
/-! DEFINITION. What counts as a safe run, in the terms claims use (60_exceptions.md R219, 30_encoding.md R78,
43_modulation_engine.md R132, 70_reset_and_hazards.md R251). -/

namespace Sys2Proof.Machine

/-- No fault flag is set: no contract of the document has been broken since reset (60_exceptions.md R219). -/
def Block.clean (b : Block) : Bool := !b.overrun && !b.cfgErr && !b.badCmd && !b.budget

/-- A trace of words is well formed from `k`: every word is a trace word and every engine step stands where a tick is
pending (30_encoding.md R78). Refused host commands are trace words and change neither. -/
def traceWellFormed (k : TickState) : List CmdWord → Bool
  | [] => true
  | w :: rest =>
    match decodeTrace w with
    | .instr i =>
      match k.after i with
      | some k' => traceWellFormed k' rest
      | none => false
    | .reserved | .writeToReadOnly _ | .unmapped => traceWellFormed k rest
    | .notTraceWord => false

/-- The tick state of a block. -/
def Block.tickState (b : Block) : TickState := { run := b.run, pend := b.tickPend }

/-- The state in which a trace is about to be performed. -/
def State.withTrace (s : State) (ws : List CmdWord) : State := { s with schedule := ws.map Arrival.traceWord }

/-- `k` steps of the machine, stopping at the first fault. -/
def runSteps : Nat → State → Result
  | 0, s => .next s
  | k + 1, s =>
    match step s with
    | .next t => runSteps k t
    | .fault r => .fault r
    | .refused r => .refused r

/-- The next step of `s`, as fetched. -/
def nextStep (s : State) : Option Decoded := (fetch s).1

/-- The invariants of 10_state.md R36, clause by clause. -/
structure Block.Inv (b : Block) : Prop where
  cshape_le : (shapeCode b.cshape).toNat ≤ 4
  lshape_le : (shapeCode b.lshape).toNat ≤ 4
  depth_le : b.depth.toNat ≤ 255
  csamp_le : b.csamp.toNat ≤ 4095
  lsamp_le : b.lsamp.toNat ≤ 4095
  outA_le : b.outA.toNat ≤ 255
  outB_le : b.outB.toNat ≤ 127
  outA_eq : b.outA.toNat = b.csamp.toNat / 2 ^ 4
  outB_eq : b.outB.toNat = b.lsamp.toNat / 2 ^ 5
  selPrev_le : b.selPrev.toNat ≤ 3
  status_reserved : (statusWord b).toNat / 2 ^ 5 = 0
  unstarted : b.run = false → b.tickPend = false ∧ b.overrun = false

/-- A block that has not been started is at rest: no phase has moved, nothing was emitted, and only `CFGERR` and
`BADCMD` can be set (70_reset_and_hazards.md R231; 95_test_vectors.md section 2.7). -/
def Block.RestUntilStart (b : Block) : Prop :=
  b.run = false →
    b.cphase = 0 ∧ b.lphase = 0 ∧ b.delta = 0 ∧ b.csamp = 2048 ∧ b.lsamp = 2048 ∧ b.outA = 128 ∧ b.outB = 64 ∧
      b.history = [] ∧ b.tickPend = false ∧ b.overrun = false ∧ b.budget = false

/-- The output registers hold the last pair emitted (10_state.md R34, 44_output_stage.md R154). -/
def Block.LastPairOnOutputs (b : Block) : Prop := ∀ p, b.history.getLast? = some p → p = (b.outA, b.outB)

/-- A finite trace has been performed and no engine step is left pending (70_reset_and_hazards.md R251). -/
def State.ended (s : State) : Prop := s.schedule = [] ∧ s.block.tickPend = false

/-- An endless run of the machine: every state is the one its predecessor steps to. DESIGN CHOICE: since the schedule is a
finite list, it takes finitely many arrivals, serves a tick left pending, and then idles for ever; an execution of 20_memory.md
R58 with endlessly many arrivals is no such run (log 26). -/
def IsExecution (e : Nat → State) : Prop := ∀ n, step (e n) = .next (e (n + 1))

/-- Fairness: `TICKPEND` does not stay 1 for ever (43_modulation_engine.md R132). Said here of endless runs of the model, whose
arrivals are finitely many (log 26). -/
def IsFair (e : Nat → State) : Prop := ∀ n, ∃ m, n ≤ m ∧ (e m).block.tickPend = false

/-- The platform meets the latency budget: `TICK_LATENCY` is less than the tick period, so that the engine is done before
the next tick (00_scope.md R8; 70_reset_and_hazards.md R240). -/
def latencyBudgetMet (cyclesPerSample : Nat) : Prop := (Config.tickLatency : Nat) < cyclesPerSample

end Sys2Proof.Machine
end

