-- ==== Sys2Proof/Certificates/Slice0/Obligations.lean ====
section
/-! DEFINITION. The statements for the provers, each a rule of spec/ or what follows from its rules. -/

open Sys2Proof Sys2Proof.Machine

/-! In every statement `out` and `schedule` are the model's own fields, for the pins a step drives (log 2) and for what is
still to arrive (log 1). Where a statement gives `exec`'s next state as an equation with `{ s with … }`, the equation is
its frame too: what is not named keeps its value. -/

/-! ### Words used by the statements -/

/-- The pins after `respond(ok, v)` (30_encoding.md R76). -/
def Sys2Proof.Statements.okPins (v : Word) : Pins := { rsp := some { err := false, data := v }, tickAck := false, dacStrobe := false }

/-- The pins after `respond(err, 0)` (30_encoding.md R76). -/
def Sys2Proof.Statements.errPins : Pins := { rsp := some { err := true, data := 0 }, tickAck := false, dacStrobe := false }

/-- The pins of a step that answers nothing and pulses nothing. -/
def Sys2Proof.Statements.quietPins : Pins := { rsp := none, tickAck := false, dacStrobe := false }

/-- `KIND` of a word, as a number (30_encoding.md R71). -/
def Sys2Proof.Statements.kindNum (w : CmdWord) : Nat := w.toNat / 2 ^ 38

/-- `RSV` of a word, as a number (30_encoding.md R71). -/
def Sys2Proof.Statements.rsvNum (w : CmdWord) : Nat := w.toNat / 2 ^ 36 % 4

/-- `REG` of a word, as a number (30_encoding.md R71). -/
def Sys2Proof.Statements.regNum (w : CmdWord) : Nat := w.toNat / 2 ^ 32 % 16

/-- `DATA` of a word, as a number (30_encoding.md R71). -/
def Sys2Proof.Statements.dataNum (w : CmdWord) : Nat := w.toNat % 2 ^ 32

open Sys2Proof.Statements

/-- The floor of the quotient by `2^k` (00_scope.md R9), with Lean's flooring division. -/
def Sys2Proof.Statements.floorShift (x : Int) (k : Nat) : Int := Int.fdiv x (2 ^ k)

/-- A first byte `{KIND, RSV, REG}` followed by `DATA` (30_encoding.md R71: "the first two digits are `{KIND, RSV, REG}` and
the last eight are `DATA`"). -/
def Sys2Proof.Statements.wordOf (first data : Nat) : CmdWord := BitVec.ofNat 40 (first * 2 ^ 32 + data)

/-- `wrap_s32(q)` as 00_scope.md R9 writes it. -/
def Sys2Proof.Statements.wrapSigned (q : Int) : Int := (q + 2 ^ 31) % 2 ^ 32 - 2 ^ 31

/-- A word fetched from the port or the trace, at the head of the schedule. -/
def Sys2Proof.Statements.arrives (s : State) (a : Arrival) (rest : List Arrival) : Prop := s.schedule = a :: rest

/-! ### Encoding -/

/-- Every instruction's word, with every operand value, decodes to it; a host command also on the port (30_encoding.md
R71, R75, R77, R84). -/
def Obligations.DecodeOfEncode : Prop :=
  ∀ i : Instr, decodeTrace (encode i) = .instr i ∧ (i.agent = .host → decodePort (encode i) = .instr i)

/-- A word that decodes to an instruction is that instruction's word: each instruction has exactly one word
(30_encoding.md R84: one word is one command, R81). -/
def Obligations.EncodeOfDecode : Prop :=
  ∀ (w : CmdWord) (i : Instr), (decodeTrace w = .instr i → encode i = w) ∧ (decodePort w = .instr i → encode i = w)

/-- The command decoder is the case list of 30_encoding.md R75, on the fields as numbers; what is no command changes
nothing but `BADCMD` and is answered with an error. -/
def Obligations.PortDecoderFollowsTheCaseList : Prop :=
  (∀ (s : State) (w : CmdWord) (rest : List Arrival), arrives s (.portWord w) rest →
    decodePort w = .reserved ∨ decodePort w = .unmapped ∨ (∃ r, decodePort w = .writeToReadOnly r) →
    step s = .next { block := { s.block with badCmd := true }, out := errPins, schedule := rest }) ∧
  ∀ w : CmdWord,
    (rsvNum w ≠ 0 → decodePort w = .reserved) ∧
    (rsvNum w = 0 →
      (kindNum w = 0 → regNum w = 0 ∧ dataNum w = 0 → decodePort w = .instr .nop) ∧
      (kindNum w = 0 → ¬(regNum w = 0 ∧ dataNum w = 0) → decodePort w = .reserved) ∧
      (kindNum w = 1 →
        (regNum w = 0 → decodePort w = .instr (.wrCtrl (BitVec.ofNat 32 (dataNum w)))) ∧
        (regNum w = 2 → decodePort w = .instr (.wrCtw (BitVec.ofNat 32 (dataNum w)))) ∧
        (regNum w = 3 → decodePort w = .instr (.wrLtw (BitVec.ofNat 32 (dataNum w)))) ∧
        (regNum w = 4 → decodePort w = .instr (.wrDepth (BitVec.ofNat 32 (dataNum w)))) ∧
        (regNum w = 5 → decodePort w = .instr (.wrCshape (BitVec.ofNat 32 (dataNum w)))) ∧
        (regNum w = 6 → decodePort w = .instr (.wrLshape (BitVec.ofNat 32 (dataNum w)))) ∧
        (regNum w = 7 → decodePort w = .instr (.wrSel (BitVec.ofNat 32 (dataNum w)))) ∧
        (regNum w = 1 ∨ 8 ≤ regNum w ∧ regNum w ≤ 14 →
          ∃ r, (regNumber r).toNat = regNum w ∧ decodePort w = .writeToReadOnly r) ∧
        (regNum w = 15 → decodePort w = .unmapped)) ∧
      (kindNum w = 2 → dataNum w ≠ 0 → decodePort w = .reserved) ∧
      (kindNum w = 2 → dataNum w = 0 →
        (regNum w = 0 → decodePort w = .instr .rdCtrl) ∧
        (regNum w = 1 → decodePort w = .instr .rdStatus) ∧
        (regNum w = 2 → decodePort w = .instr .rdCtw) ∧
        (regNum w = 3 → decodePort w = .instr .rdLtw) ∧
        (regNum w = 4 → decodePort w = .instr .rdDepth) ∧
        (regNum w = 5 → decodePort w = .instr .rdCshape) ∧
        (regNum w = 6 → decodePort w = .instr .rdLshape) ∧
        (regNum w = 7 → decodePort w = .instr .rdSel) ∧
        (regNum w = 8 → decodePort w = .instr .rdCphase) ∧
        (regNum w = 9 → decodePort w = .instr .rdLphase) ∧
        (regNum w = 10 → decodePort w = .instr .rdDelta) ∧
        (regNum w = 11 → decodePort w = .instr .rdOuta) ∧
        (regNum w = 12 → decodePort w = .instr .rdOutb) ∧
        (regNum w = 13 → decodePort w = .instr .rdCsamp) ∧
        (regNum w = 14 → decodePort w = .instr .rdLsamp) ∧
        (regNum w = 15 → decodePort w = .unmapped)) ∧
      (kindNum w = 3 → decodePort w = .reserved))

/-- The trace decoder: the three events, no other word with `KIND = 3`, every other word as the port decodes it
(30_encoding.md R77). -/
def Obligations.TraceDecoderAddsTheThreeEvents : Prop :=
  decodeTrace 0xC000000000#40 = .instr .evtTimer ∧ decodeTrace 0xC100000000#40 = .instr .evtEngine ∧
  decodeTrace 0xC200000000#40 = .instr .evtReset ∧
  ∀ w : CmdWord,
    (kindNum w = 3 → w ≠ 0xC000000000#40 → w ≠ 0xC100000000#40 → w ≠ 0xC200000000#40 → decodeTrace w = .notTraceWord) ∧
    (kindNum w ≠ 3 → decodeTrace w = decodePort w)

/-- Words the spec writes out decode to what it says they are (30_encoding.md R71, R82; 45_host_commands.md;
95_test_vectors.md section 2.6). -/
def Obligations.SpecWordsDecode : Prop :=
  decodeTrace 0x0000000000#40 = .instr .nop ∧ decodeTrace 0x4000000001#40 = .instr (.wrCtrl 1) ∧
  decodeTrace 0x4205555555#40 = .instr (.wrCtw 89478485) ∧ decodeTrace 0x43000DA741#40 = .instr (.wrLtw 894785) ∧
  decodeTrace 0x44000000FF#40 = .instr (.wrDepth 255) ∧ decodeTrace 0x4500000004#40 = .instr (.wrCshape 4) ∧
  decodeTrace 0x4600000002#40 = .instr (.wrLshape 2) ∧ decodeTrace 0x4700000003#40 = .instr (.wrSel 3) ∧
  decodeTrace 0x8100000000#40 = .instr .rdStatus ∧ decodeTrace 0x8A00000000#40 = .instr .rdDelta ∧
  decodeTrace 0x8E00000000#40 = .instr .rdLsamp ∧ decodeTrace 0xC100000000#40 = .instr .evtEngine ∧
  decodeTrace 0x4800000000#40 = .writeToReadOnly .cphase ∧ decodeTrace 0x8F00000000#40 = .unmapped ∧
  decodeTrace 0x6200000001#40 = .reserved ∧ decodeTrace 0x8200000001#40 = .reserved ∧
  decodePort 0xC100000000#40 = .reserved ∧ decodeTrace 0xC300000000#40 = .notTraceWord

/-! ### A step runs what was decoded -/

/-- A word that arrives and decodes to an instruction is executed: `step` is `exec` of it, the arrival used up
(20_memory.md R58; the schedule is the model's, log 1; a word under reset is the reset event, R230). -/
def Obligations.StepRunsTheDecodedInstruction : Prop :=
  ∀ (s : State) (w : CmdWord) (rest : List Arrival),
    (∀ i, arrives s (.traceWord w) rest → decodeTrace w = .instr i → step s = exec i { s with schedule := rest }) ∧
    (∀ i, arrives s (.portWord w) rest → decodePort w = .instr i → step s = exec i { s with schedule := rest }) ∧
    (arrives s (.portWordUnderReset w) rest → step s = exec .evtReset { s with schedule := rest })

/-- Every refused word raises `BADCMD`, changes nothing else and is answered with an error (45_host_commands.md R185,
R186, R187), presented on the port; written in a trace it does the same where it is a trace word. -/
def Obligations.RefusedWordsRaiseBadcmd : Prop :=
  ∀ (s : State) (w : CmdWord) (rest : List Arrival),
    (rsvNum w ≠ 0 ∨ (kindNum w = 0 ∧ (regNum w ≠ 0 ∨ dataNum w ≠ 0)) ∨ (kindNum w = 2 ∧ dataNum w ≠ 0) ∨
      kindNum w = 3 ∨
      (kindNum w = 1 ∨ kindNum w = 2) ∧ regNum w = 15 ∨
      kindNum w = 1 ∧ (regNum w = 1 ∨ 8 ≤ regNum w ∧ regNum w ≤ 14)) →
    (arrives s (.portWord w) rest →
      step s = .next { block := { s.block with badCmd := true }, out := errPins, schedule := rest }) ∧
    (arrives s (.traceWord w) rest → kindNum w ≠ 3 →
      step s = .next { block := { s.block with badCmd := true }, out := errPins, schedule := rest })

/-- A word with `KIND = 3` that is no event is no trace word: the machine stops there (93 V7, 30_encoding.md R77, R78;
the stop is the model's form of "no meaning", log 5). -/
def Obligations.NonTraceWordStops : Prop :=
  ∀ (s : State) (w : CmdWord) (rest : List Arrival),
    arrives s (.traceWord w) rest → kindNum w = 3 → w ≠ 0xC000000000#40 → w ≠ 0xC100000000#40 → w ≠ 0xC200000000#40 →
    step s = .fault .illFormedTraceWord

/-- Where nothing more arrives, a pending tick is served, and without one the block keeps its state (43_modulation_engine.md
R132: once enabled it must eventually be taken; the placing is the model's, log 3). -/
def Obligations.EmptyScheduleServesThePendingTick : Prop :=
  ∀ s : State, s.schedule = [] →
    (s.block.tickPend = true → step s = exec .evtEngine s) ∧
    (s.block.tickPend = false → step s = .next { s with out := quietPins })

/-! ### Results: no operation and writes -/

/-- `NOP` (45_host_commands.md R161): it responds `(ok, 0)` and leaves the state unchanged. -/
def Obligations.NopLeavesTheStateUnchanged : Prop :=
  decodePort (wordOf 0x00 0) = .instr .nop ∧ ∀ s : State, exec .nop s = .next { s with out := okPins 0 }

/-- `WR.CTRL` (45_host_commands.md R162). -/
def Obligations.WrCtrlStartsTheBlock : Prop :=
  ∀ (d : Word) (s : State),
    decodePort (wordOf 0x40 d.toNat) = .instr (.wrCtrl d) ∧
    (d.toNat > 1 → exec (.wrCtrl d) s = .next { s with block := { s.block with cfgErr := true }, out := errPins }) ∧
    (d = 1 → exec (.wrCtrl d) s = .next { s with block := { s.block with run := true }, out := okPins 0 }) ∧
    (d = 0 → exec (.wrCtrl d) s = .next { s with out := okPins 0 })

/-- `WR.CTW` and `WR.LTW` (45_host_commands.md R163, R164): every word is accepted and stored. -/
def Obligations.WrTuningWordsStoreTheWord : Prop :=
  ∀ (d : Word) (s : State),
    decodePort (wordOf 0x42 d.toNat) = .instr (.wrCtw d) ∧ decodePort (wordOf 0x43 d.toNat) = .instr (.wrLtw d) ∧
    exec (.wrCtw d) s = .next { s with block := { s.block with ctw := d }, out := okPins 0 } ∧
    exec (.wrLtw d) s = .next { s with block := { s.block with ltw := d }, out := okPins 0 }

/-- `WR.DEPTH` (45_host_commands.md R165). -/
def Obligations.WrDepthStoresOrRefuses : Prop :=
  ∀ (d : Word) (s : State),
    decodePort (wordOf 0x44 d.toNat) = .instr (.wrDepth d) ∧
    (d.toNat > 255 → exec (.wrDepth d) s = .next { s with block := { s.block with cfgErr := true }, out := errPins }) ∧
    (d.toNat ≤ 255 →
      exec (.wrDepth d) s =
        .next { s with block := { s.block with depth := BitVec.ofNat 8 d.toNat }, out := okPins 0 })

/-- `WR.CSHAPE` and `WR.LSHAPE` (45_host_commands.md R166, R167): data 0 to 4 is stored as the shape with that number,
larger data is refused. -/
def Obligations.WrShapesStoreOrRefuse : Prop :=
  ∀ (d : Word) (s : State),
    decodePort (wordOf 0x45 d.toNat) = .instr (.wrCshape d) ∧ decodePort (wordOf 0x46 d.toNat) = .instr (.wrLshape d) ∧
    (d.toNat > 4 →
      exec (.wrCshape d) s = .next { s with block := { s.block with cfgErr := true }, out := errPins } ∧
      exec (.wrLshape d) s = .next { s with block := { s.block with cfgErr := true }, out := errPins }) ∧
    (d.toNat ≤ 4 → ∃ sh : WaveShape, (shapeCode sh).toNat = d.toNat ∧
      exec (.wrCshape d) s = .next { s with block := { s.block with cshape := sh }, out := okPins 0 } ∧
      exec (.wrLshape d) s = .next { s with block := { s.block with lshape := sh }, out := okPins 0 })

/-- The numbers of the shapes, their places in the ROM, and the cyclic step through them (30_encoding.md R79;
45_host_commands.md R169): no number above 4 is a shape, and five steps return to the start. -/
def Obligations.ShapesAreNumberedInOrder : Prop :=
  shapeCode .sine = 0 ∧ shapeCode .triangle = 1 ∧ shapeCode .square = 2 ∧ shapeCode .sawDown = 3 ∧
  shapeCode .sawUp = 4 ∧ (∀ n : BitVec 3, (∃ sh, shapeCode sh = n) ↔ n.toNat ≤ 4) ∧
  (∀ (sh : WaveShape) (i : Index), (shapeCode sh).toNat * 1024 ≤ (romAddr sh i).toNat ∧
    (romAddr sh i).toNat ≤ (shapeCode sh).toNat * 1024 + 1023) ∧
  ∀ sh : WaveShape, (shapeCode (shapeStep sh)).toNat = ((shapeCode sh).toNat + 1) % 5 ∧ shapeStep^[5] sh = sh

/-- `WR.SEL` (45_host_commands.md R168): each shape steps by `(s + 1) mod 5` exactly when its level goes from 0 to
1, both in one command if both do; the levels are kept; larger data changes nothing but `CFGERR`. -/
def Obligations.WrSelStepsShapesOnRisingEdges : Prop :=
  ∀ (d : Word) (s : State),
    decodePort (wordOf 0x47 d.toNat) = .instr (.wrSel d) ∧
    (d.toNat > 3 → exec (.wrSel d) s = .next { s with block := { s.block with cfgErr := true }, out := errPins }) ∧
    (d.toNat ≤ 3 → ∃ c l : WaveShape,
      (shapeCode c).toNat =
        (if s.block.selPrev.toNat % 2 = 0 ∧ d.toNat % 2 = 1 then ((shapeCode s.block.cshape).toNat + 1) % 5
         else (shapeCode s.block.cshape).toNat) ∧
      (shapeCode l).toNat =
        (if s.block.selPrev.toNat / 2 = 0 ∧ d.toNat / 2 = 1 then ((shapeCode s.block.lshape).toNat + 1) % 5
         else (shapeCode s.block.lshape).toNat) ∧
      exec (.wrSel d) s =
        .next { s with
          block := { s.block with cshape := c, lshape := l, selPrev := BitVec.ofNat 2 d.toNat }
          out := okPins 0 })

/-- Writing the same value twice equals writing it once, for every write command, accepted or refused (20_memory.md R56). -/
def Obligations.RepeatedWriteEqualsOne : Prop :=
  ∀ (d : Word) (s t : State) (i : Instr),
    i ∈ [Instr.wrCtrl d, .wrCtw d, .wrLtw d, .wrDepth d, .wrCshape d, .wrLshape d, .wrSel d] →
    exec i s = .next t → exec i t = .next t

/-! ### Results: reads -/

/-- The reads of the control registers (45_host_commands.md R170, R172 to R177): the value zero-extended, nothing
changed. -/
def Obligations.ReadsOfControlRegisters : Prop :=
  decodePort (wordOf 0x80 0) = .instr .rdCtrl ∧ decodePort (wordOf 0x82 0) = .instr .rdCtw ∧
  decodePort (wordOf 0x83 0) = .instr .rdLtw ∧ decodePort (wordOf 0x84 0) = .instr .rdDepth ∧
  decodePort (wordOf 0x85 0) = .instr .rdCshape ∧ decodePort (wordOf 0x86 0) = .instr .rdLshape ∧
  decodePort (wordOf 0x87 0) = .instr .rdSel ∧
  ∀ s : State,
    exec .rdCtrl s = .next { s with out := okPins (if s.block.run then 1 else 0) } ∧
    exec .rdCtw s = .next { s with out := okPins s.block.ctw } ∧
    exec .rdLtw s = .next { s with out := okPins s.block.ltw } ∧
    exec .rdDepth s = .next { s with out := okPins (BitVec.ofNat 32 s.block.depth.toNat) } ∧
    exec .rdCshape s = .next { s with out := okPins (BitVec.ofNat 32 (shapeCode s.block.cshape).toNat) } ∧
    exec .rdLshape s = .next { s with out := okPins (BitVec.ofNat 32 (shapeCode s.block.lshape).toNat) } ∧
    exec .rdSel s = .next { s with out := okPins (BitVec.ofNat 32 s.block.selPrev.toNat) }

/-- `RD.STATUS` (45_host_commands.md R171; 10_state.md R24): `TICKPEND` is bit 0, `OVERRUN` 1, `CFGERR` 2, `BADCMD` 3,
`BUDGET` 4, the rest 0, and no flag is cleared. -/
def Obligations.ReadOfStatus : Prop :=
  decodePort (wordOf 0x81 0) = .instr .rdStatus ∧
  ∀ s : State,
    exec .rdStatus s = .next { s with out := okPins (BitVec.ofNat 32
      (s.block.tickPend.toNat + 2 * s.block.overrun.toNat + 4 * s.block.cfgErr.toNat + 8 * s.block.badCmd.toNat
        + 16 * s.block.budget.toNat)) }

/-- The reads of the datapath registers (45_host_commands.md R178 to R184). -/
def Obligations.ReadsOfDatapathRegisters : Prop :=
  decodePort (wordOf 0x88 0) = .instr .rdCphase ∧ decodePort (wordOf 0x89 0) = .instr .rdLphase ∧
  decodePort (wordOf 0x8A 0) = .instr .rdDelta ∧ decodePort (wordOf 0x8B 0) = .instr .rdOuta ∧
  decodePort (wordOf 0x8C 0) = .instr .rdOutb ∧ decodePort (wordOf 0x8D 0) = .instr .rdCsamp ∧
  decodePort (wordOf 0x8E 0) = .instr .rdLsamp ∧
  ∀ s : State,
    exec .rdCphase s = .next { s with out := okPins s.block.cphase } ∧
    exec .rdLphase s = .next { s with out := okPins s.block.lphase } ∧
    exec .rdDelta s = .next { s with out := okPins (BitVec.ofInt 32 (s.block.delta.toInt % 2 ^ 32)) } ∧
    exec .rdOuta s = .next { s with out := okPins (BitVec.ofNat 32 s.block.outA.toNat) } ∧
    exec .rdOutb s = .next { s with out := okPins (BitVec.ofNat 32 s.block.outB.toNat) } ∧
    exec .rdCsamp s = .next { s with out := okPins (BitVec.ofNat 32 s.block.csamp.toNat) } ∧
    exec .rdLsamp s = .next { s with out := okPins (BitVec.ofNat 32 s.block.lsamp.toNat) }

/-- A write is seen by a later read of the same register (20_memory.md R59): the data written is the data read. -/
def Obligations.ReadReturnsWhatWasWritten : Prop :=
  ∀ (d : Word) (s : State) (w r : Instr),
    (w, r) ∈ [(Instr.wrCtw d, Instr.rdCtw), (.wrLtw d, .rdLtw), (.wrDepth d, .rdDepth), (.wrCshape d, .rdCshape),
      (.wrLshape d, .rdLshape), (.wrSel d, .rdSel)] →
    w.legalData = true →
    ∃ t u : State, exec w s = .next t ∧ exec r t = .next u ∧ u.block = t.block ∧ u.out = okPins d

/-! ### Results: events -/

/-- `EVT.TIMER` (43_modulation_engine.md R131). -/
def Obligations.TimerEventSetsPendingOrOverrun : Prop :=
  decodeTrace 0xC000000000#40 = .instr .evtTimer ∧
  ∀ s : State,
    (s.block.run = false → exec .evtTimer s = .next { s with out := quietPins }) ∧
    (s.block.run = true → s.block.tickPend = true →
      exec .evtTimer s = .next { s with block := { s.block with overrun := true }, out := quietPins }) ∧
    (s.block.run = true → s.block.tickPend = false →
      exec .evtTimer s = .next { s with block := { s.block with tickPend := true }, out := quietPins })

/-- `EVT.ENGINE` (43_modulation_engine.md R133, with R145 and 44_output_stage.md R153, R154): the eight sub-steps on the
integers, for the device's table whatever it holds; it completes in every state with a tick pending (R143). -/
def Obligations.EngineStepComputesTheSampleTick : Prop :=
  decodeTrace 0xC100000000#40 = .instr .evtEngine ∧
  ∀ s : State, s.block.tickPend = true →
    let b := s.block
    let lphase1 : Word := BitVec.ofNat 32 ((b.lphase.toNat + b.ltw.toNat) % 2 ^ 32)
    let ls : Sample := Config.wt b.lshape (BitVec.ofNat 10 (lphase1.toNat / 2 ^ 22))
    let q : Int := floorShift (((ls.toNat : Int) - 2048) * ((b.depth.toNat : Int) * 4096) * (b.ctw.toNat : Int)) 31
    let delta : Int := wrapSigned q
    let cphase1 : Word := BitVec.ofInt 32 (((b.cphase.toNat : Int) + (b.ctw.toNat : Int) + delta) % 2 ^ 32)
    let cs : Sample := Config.wt b.cshape (BitVec.ofNat 10 (cphase1.toNat / 2 ^ 22))
    let outA : BitVec 8 := BitVec.ofNat 8 (cs.toNat / 2 ^ 4)
    let outB : BitVec 7 := BitVec.ofNat 7 (ls.toNat / 2 ^ 5)
    exec .evtEngine s =
      .next { s with
        block := { b with
          lphase := lphase1
          cphase := cphase1
          lsamp := ls
          csamp := cs
          delta := BitVec.ofInt 32 delta
          outA := outA
          outB := outB
          history := b.history ++ [(outA, outB)]
          budget := b.budget || decide (q ≠ delta)
          tickPend := false }
        out := { rsp := none, tickAck := true, dacStrobe := true } }

/-- Where `TICKPEND = 0` the engine step cannot be taken: the machine stops (43_modulation_engine.md R132; the stop is
93 V7's "stuck", log 4). -/
def Obligations.EngineStepNeedsAPendingTick : Prop :=
  ∀ s : State, s.block.tickPend = false → exec .evtEngine s = .fault .engineNotEnabled

/-- `EVT.RESET` (70_reset_and_hazards.md R230 with 10_state.md R38): every element takes its reset value from any state,
whatever is pending; nothing is answered and nothing is pulsed, and a word presented under reset is discarded (log 15). -/
def Obligations.ResetGivesEveryElementItsValue : Prop :=
  decodeTrace 0xC200000000#40 = .instr .evtReset ∧
  let b : Block :=
    { cphase := 0, lphase := 0, ctw := 0, ltw := 0, depth := 0, cshape := .sine, lshape := .sine, selPrev := 0,
      run := false, tickPend := false, overrun := false, cfgErr := false, badCmd := false, budget := false,
      delta := 0, csamp := 2048, lsamp := 2048, outA := 128, outB := 64, history := [] }
  (∀ s : State, ∃ t : State, exec .evtReset s = .next t ∧ t.block = b ∧ t.out = quietPins) ∧
  ∀ (s : State) (w : CmdWord) (rest : List Arrival), arrives s (.portWordUnderReset w) rest →
    ∃ t : State, step s = .next t ∧ t.block = b ∧ t.out = quietPins

/-- The state after reset holds the values of 10_state.md R38. -/
def Obligations.ResetStateHoldsTheSpecValues : Prop :=
  State.reset.block =
    { cphase := 0, lphase := 0, ctw := 0, ltw := 0, depth := 0, cshape := .sine, lshape := .sine, selPrev := 0,
      run := false, tickPend := false, overrun := false, cfgErr := false, badCmd := false, budget := false,
      delta := 0, csamp := 2048, lsamp := 2048, outA := 128, outB := 64, history := [] }

/-! ### Invariants -/

/-- Every step keeps the invariants of 10_state.md R36. -/
def Obligations.EveryStepKeepsTheStateInvariant : Prop :=
  ∀ s t : State, s.block.Inv → step s = .next t → t.block.Inv

/-- The state after reset meets the invariants of 10_state.md R36. -/
def Obligations.ResetMeetsTheStateInvariant : Prop := State.reset.block.Inv

/-- The invariants of 10_state.md R36 hold in every state reached from reset, whatever arrives. What a run is, is the
model's: the list of arrivals (log 1) and what happens where nothing more arrives (log 3). -/
def Obligations.ReachableStatesMeetTheStateInvariant : Prop :=
  ∀ (arrivals : List Arrival) (k : Nat) (t : State),
    runSteps k { State.reset with schedule := arrivals } = .next t → t.block.Inv

/-- Every step keeps an unstarted block at rest (70_reset_and_hazards.md R231; 95_test_vectors.md section 2.7). -/
def Obligations.EveryStepKeepsTheBlockAtRestUntilStart : Prop :=
  ∀ s t : State, s.block.RestUntilStart → step s = .next t → t.block.RestUntilStart

/-- Every step keeps the last emitted pair on the outputs (10_state.md R34; 44_output_stage.md R154). -/
def Obligations.EveryStepKeepsTheLastPairOnTheOutputs : Prop :=
  ∀ s t : State, s.block.LastPairOnOutputs → step s = .next t → t.block.LastPairOnOutputs

/-! ### Whole-machine rules -/

/-- A flag that is 1 stays 1, and so does `RUN`, in every step but the reset event (60_exceptions.md R201; 10_state.md
R25). -/
def Obligations.OnlyResetClearsRunAndFlags : Prop :=
  ∀ s t : State, step s = .next t → nextStep s ≠ some (.instr .evtReset) →
    (∀ f : FaultFlag, faultSet f s.block = true → faultSet f t.block = true) ∧
    (s.block.run = true → t.block.run = true)

/-- The accumulators are written only by the engine step and the reset event, and so are the latches, the outputs and the
output history (10_state.md R22; 60_exceptions.md R213). -/
def Obligations.OnlyEngineAndResetWriteTheDatapath : Prop :=
  ∀ s t : State, step s = .next t → nextStep s ≠ some (.instr .evtEngine) → nextStep s ≠ some (.instr .evtReset) →
    t.block.cphase = s.block.cphase ∧ t.block.lphase = s.block.lphase ∧ t.block.delta = s.block.delta ∧
    t.block.csamp = s.block.csamp ∧ t.block.lsamp = s.block.lsamp ∧ t.block.outA = s.block.outA ∧
    t.block.outB = s.block.outB ∧ t.block.history = s.block.history ∧ t.block.budget = s.block.budget

/-- The engine and the timer write no control register, no selector level, not `RUN`, not `CFGERR` and not `BADCMD`
(60_exceptions.md R213). -/
def Obligations.EngineAndTimerWriteNoControlRegister : Prop :=
  ∀ s t : State, step s = .next t → nextStep s = some (.instr .evtEngine) ∨ nextStep s = some (.instr .evtTimer) →
    t.block.ctw = s.block.ctw ∧ t.block.ltw = s.block.ltw ∧ t.block.depth = s.block.depth ∧
    t.block.cshape = s.block.cshape ∧ t.block.lshape = s.block.lshape ∧ t.block.selPrev = s.block.selPrev ∧
    t.block.run = s.block.run ∧ t.block.cfgErr = s.block.cfgErr ∧ t.block.badCmd = s.block.badCmd

/-- Every host command completes with exactly one response and no pulse; it writes no accumulator, latch, output,
`TICKPEND`, `OVERRUN` or `BUDGET` and appends nothing to the history; a refused one changes nothing but `CFGERR`
(45_host_commands.md R160, 30_encoding.md R76). -/
def Obligations.HostCommandsCompleteWithOneResponse : Prop :=
  ∀ (i : Instr) (s : State), i.agent = .host → ∃ (t : State) (r : Response),
    exec i s = .next t ∧ t.out = { rsp := some r, tickAck := false, dacStrobe := false } ∧ t.schedule = s.schedule ∧
    t.block.cphase = s.block.cphase ∧ t.block.lphase = s.block.lphase ∧ t.block.delta = s.block.delta ∧
    t.block.csamp = s.block.csamp ∧ t.block.lsamp = s.block.lsamp ∧ t.block.outA = s.block.outA ∧
    t.block.outB = s.block.outB ∧ t.block.tickPend = s.block.tickPend ∧ t.block.overrun = s.block.overrun ∧
    t.block.budget = s.block.budget ∧ t.block.history = s.block.history ∧
    (r.err = true ↔ i.legalData = false) ∧
    (r.err = true → r.data = 0 ∧ t.block = { s.block with cfgErr := true })

/-- One step raises at most one fault flag (60_exceptions.md R210). -/
def Obligations.OneStepRaisesAtMostOneFault : Prop :=
  ∀ (s t : State) (f g : FaultFlag), step s = .next t →
    faultSet f s.block = false → faultSet f t.block = true → faultSet g s.block = false → faultSet g t.block = true →
    f = g

/-- Each agent raises only its own fault: a host command `CFGERR` or `BADCMD`, the timer event `OVERRUN`, the engine step
`BUDGET` (60_exceptions.md R202, R210). -/
def Obligations.EachAgentRaisesItsOwnFault : Prop :=
  ∀ (s t : State) (f : FaultFlag), step s = .next t → faultSet f s.block = false → faultSet f t.block = true →
    (f = .overrun → nextStep s = some (.instr .evtTimer) ∧ s.block.run = true ∧ s.block.tickPend = true) ∧
    (f = .budget → nextStep s = some (.instr .evtEngine)) ∧
    (f = .cfgErr → ∃ i : Instr, nextStep s = some (.instr i) ∧ i.legalData = false) ∧
    (f = .badCmd → nextStep s = some .reserved ∨ nextStep s = some .unmapped ∨
      ∃ r, nextStep s = some (.writeToReadOnly r))

/-- Exactly one pair is emitted per engine step, the one on the outputs, with the strobe and the acknowledge; no other
step emits or pulses, and only reset empties the history (44_output_stage.md R154; 43_modulation_engine.md R145). -/
def Obligations.OnlyEngineStepsEmitAndEachEmitsOnePair : Prop :=
  ∀ s t : State, step s = .next t →
    (nextStep s = some (.instr .evtEngine) →
      t.block.history = s.block.history ++ [(t.block.outA, t.block.outB)] ∧ t.out.dacStrobe = true ∧
      t.out.tickAck = true ∧ t.block.tickPend = false) ∧
    (nextStep s ≠ some (.instr .evtEngine) → t.out.dacStrobe = false ∧ t.out.tickAck = false) ∧
    (nextStep s = some (.instr .evtReset) → t.block.history = []) ∧
    (nextStep s ≠ some (.instr .evtEngine) → nextStep s ≠ some (.instr .evtReset) →
      t.block.history = s.block.history)

/-! ### The datapath functions -/

/-- `Advance` (41_oscillator.md R110): the sum modulo 2^32, so only the low 32 bits of the increment matter. -/
def Obligations.AdvanceAddsModulo : Prop :=
  ∀ (acc : Word) (inc : Int),
    ((advance acc inc).toNat : Int) = ((acc.toNat : Int) + inc) % 2 ^ 32 ∧
    advance acc inc = advance acc (inc % 2 ^ 32)

/-- The wraparound law (41_oscillator.md R114). -/
def Obligations.RepeatedAdvanceIsOneAdvance : Prop :=
  ∀ (a T : Word) (k : Nat),
    (fun x => advance x (T.toNat : Int))^[k] a = advance a (((T.toNat * k) % 2 ^ 32 : Nat) : Int) ∧
    ((fun x => advance x (T.toNat : Int))^[k] a).toNat = (a.toNat + T.toNat * k) % 2 ^ 32

/-- `Index` and its bound, and `Sample` (41_oscillator.md R111, R112, R113). -/
def Obligations.IndexIsTheTopTenBits : Prop :=
  ∀ (acc : Word) (wt : WaveTable) (sh : WaveShape),
    (index acc).toNat = acc.toNat / 2 ^ 22 ∧ (index acc).toNat < 1024 ∧
    sampleAt wt acc sh = wt sh (BitVec.ofNat 10 (acc.toNat / 2 ^ 22))

/-- The ROM address and `MemRead` (20_memory.md R52): shape and index concatenated, always mapped; every mapped address
holds the sample of its shape and index. -/
def Obligations.RomAddressIsShapeThenIndex : Prop :=
  ∀ wt : WaveTable,
    (∀ (sh : WaveShape) (i : Index),
      (romAddr sh i).toNat = (shapeCode sh).toNat * 1024 + i.toNat ∧ (romAddr sh i).toNat < 5120 ∧
      memRead wt (romAddr sh i) = some (wtRead wt sh i)) ∧
    ∀ a : RomAddr, a.toNat < 5120 → ∃ sh : WaveShape, (shapeCode sh).toNat = a.toNat / 1024 ∧
      memRead wt a = some (wt sh (BitVec.ofNat 10 (a.toNat % 1024)))

/-- The engine reads its table at two places only: tables that agree at the LFO's and the Carrier's address give the same
engine step (20_memory.md R57). -/
def Obligations.EngineReadsTwoTableEntries : Prop :=
  ∀ (wt wt' : WaveTable) (b : Block),
    wt b.lshape (index (engineLphase b)) = wt' b.lshape (index (engineLphase b)) →
    wt b.cshape (index (engineCphase wt b)) = wt' b.cshape (index (engineCphase wt b)) →
    engineStep wt b = engineStep wt' b

/-- The two rescalers (44_output_stage.md R150, R151). -/
def Obligations.RescalersDropTheLowBits : Prop :=
  ∀ x : Sample, (rescaleA x).toNat = x.toNat / 2 ^ 4 ∧ (rescaleB x).toNat = x.toNat / 2 ^ 5

/-- `ModDelta` in both forms of 43_modulation_engine.md R137, with its zero cases. -/
def Obligations.ModDeltaIsTheWrappedFloor : Prop :=
  ∀ (ls : Sample) (depth : Depth) (ctw : Word),
    (modDelta ls depth ctw).toInt =
      wrapSigned (floorShift (((ls.toNat : Int) - 2048) * ((depth.toNat : Int) * 4096) * (ctw.toNat : Int)) 31) ∧
    (modDelta ls depth ctw).toInt =
      wrapSigned (floorShift (((ls.toNat : Int) - 2048) * (depth.toNat : Int) * (ctw.toNat : Int)) 19) ∧
    (depth = 0 ∨ ls = 2048 ∨ ctw = 0 → modDelta ls depth ctw = 0)

/-- The products of sub-steps 2 to 4 and their exact ranges (43_modulation_engine.md R134, R135, R136): neither product
overflows its declared width. -/
def Obligations.ProductsStayInTheirWidths : Prop :=
  ∀ (ls : Sample) (depth : Depth) (ctw : Word),
    signedSample ls = (ls.toNat : Int) - 2048 ∧ -2048 ≤ signedSample ls ∧ signedSample ls ≤ 2047 ∧
    depthScale depth = (depth.toNat : Int) * 4096 ∧ 0 ≤ depthScale depth ∧ depthScale depth ≤ 1044480 ∧
    product32 ls depth = signedSample ls * depthScale depth ∧
    -2139095040 ≤ product32 ls depth ∧ product32 ls depth ≤ 2138050560 ∧
    product64 ls depth ctw = product32 ls depth * (ctw.toNat : Int) ∧
    -9187343237696716800 ≤ product64 ls depth ctw ∧ product64 ls depth ctw ≤ 9182857230256435200 ∧
    shiftedProduct ls depth ctw = floorShift (product64 ls depth ctw) 31 ∧
    -4278190080 ≤ shiftedProduct ls depth ctw ∧ shiftedProduct ls depth ctw ≤ 4276101119

/-- The bit budget, exactly (43_modulation_engine.md R139): the table of exact ranges with their extremes attained; the
delta fits 32 bits for every sample and depth if and only if the tuning word is at most 0x80808080, with the first
failures on both sides, the sufficient bound, and the range at the tuning word of 1000 Hz. -/
def Obligations.BitBudgetHoldsExactlyUpToTheBound : Prop :=
  (∀ (ls : Sample) (depth : Depth) (ctw : Word),
    (-2048 ≤ signedSample ls ∧ signedSample ls ≤ 2047) ∧ (0 ≤ depthScale depth ∧ depthScale depth ≤ 1044480) ∧
    (-2139095040 ≤ product32 ls depth ∧ product32 ls depth ≤ 2138050560) ∧
    (-9187343237696716800 ≤ product64 ls depth ctw ∧ product64 ls depth ctw ≤ 9182857230256435200) ∧
    (-4278190080 ≤ shiftedProduct ls depth ctw ∧ shiftedProduct ls depth ctw ≤ 4276101119)) ∧
  (signedSample 0 = -2048 ∧ signedSample 4095 = 2047 ∧ depthScale 0 = 0 ∧ depthScale 255 = 1044480 ∧
    product32 0 255 = -2139095040 ∧ product32 4095 255 = 2138050560 ∧
    product64 0 255 4294967295 = -9187343237696716800 ∧ product64 4095 255 4294967295 = 9182857230256435200 ∧
    shiftedProduct 0 255 4294967295 = -4278190080 ∧ shiftedProduct 4095 255 4294967295 = 4276101119) ∧
  (∀ ctw : Word,
    (∀ (ls : Sample) (depth : Depth), -2 ^ 31 ≤ shiftedProduct ls depth ctw ∧ shiftedProduct ls depth ctw ≤ 2 ^ 31 - 1) ↔
      ctw.toNat ≤ 2155905152) ∧
  shiftedProduct 0 255 2155905153 = -2147483649 ∧
  shiftedProduct 4095 255 2156958355 = 2147483648 ∧
  (∀ (ls : Sample) (depth : Depth) (ctw : Word), ctw.toNat < 2156958355 → shiftedProduct ls depth ctw ≤ 2 ^ 31 - 1) ∧
  (∀ (ls : Sample) (depth : Depth) (ctw : Word), ctw.toNat ≤ 2 ^ 31 →
    -2 ^ 31 < shiftedProduct ls depth ctw ∧ shiftedProduct ls depth ctw < 2 ^ 31) ∧
  (∀ ls : Sample, -89128960 ≤ shiftedProduct ls 255 89478485 ∧ shiftedProduct ls 255 89478485 ≤ 89085439) ∧
  shiftedProduct 0 255 89478485 = -89128960 ∧ shiftedProduct 4095 255 89478485 = 89085439

/-- `BUDGET` is raised exactly when `q` is outside the signed 32-bit range, that is when wrapping changes it, and the
step completes (43_modulation_engine.md R138). -/
def Obligations.BudgetIsRaisedExactlyOutsideTheRange : Prop :=
  ∀ s : State, s.block.tickPend = true → ∃ t : State, exec .evtEngine s = .next t ∧
    (t.block.budget = true ↔
      s.block.budget = true ∨ engineShifted Config.wt s.block < -2 ^ 31 ∨
        engineShifted Config.wt s.block > 2 ^ 31 - 1) ∧
    (wrapSigned (engineShifted Config.wt s.block) ≠ engineShifted Config.wt s.block ↔
      engineShifted Config.wt s.block < -2 ^ 31 ∨ engineShifted Config.wt s.block > 2 ^ 31 - 1) ∧
    t.block.delta.toInt = wrapSigned (engineShifted Config.wt s.block)

/-- The carrier advance (43_modulation_engine.md R140): the wrapped delta and the unwrapped `q` give the same phase, and
the unwrapped increment lies between 0 and twice the tuning word. -/
def Obligations.CarrierPhaseIsUndisturbedByWrapping : Prop :=
  ∀ (wt : WaveTable) (b : Block),
    ((engineStep wt b).cphase.toNat : Int) =
      ((b.cphase.toNat : Int) + (b.ctw.toNat : Int) + (modDelta (engineLsamp wt b) b.depth b.ctw).toInt) % 2 ^ 32 ∧
    ((engineStep wt b).cphase.toNat : Int) =
      ((b.cphase.toNat : Int) + (b.ctw.toNat : Int) + shiftedProduct (engineLsamp wt b) b.depth b.ctw) % 2 ^ 32 ∧
    ∀ (ls : Sample) (depth : Depth) (ctw : Word),
      -(ctw.toNat : Int) ≤ shiftedProduct ls depth ctw ∧ shiftedProduct ls depth ctw ≤ (ctw.toNat : Int) ∧
      0 ≤ (ctw.toNat : Int) + shiftedProduct ls depth ctw ∧
      (ctw.toNat : Int) + shiftedProduct ls depth ctw ≤ 2 * (ctw.toNat : Int)

/-- Zero-depth invariance (43_modulation_engine.md R141). -/
def Obligations.ZeroDepthLeavesTheCarrierUnmodulated : Prop :=
  (∀ (ls : Sample) (ctw : Word), modDelta ls 0 ctw = 0) ∧
  ∀ s : State, s.block.tickPend = true → s.block.depth = 0 → ∃ t : State,
    exec .evtEngine s = .next t ∧ t.block.delta = 0 ∧ t.block.budget = s.block.budget ∧
    t.block.cphase.toNat = (s.block.cphase.toNat + s.block.ctw.toNat) % 2 ^ 32 ∧
    t.block.lphase.toNat = (s.block.lphase.toNat + s.block.ltw.toNat) % 2 ^ 32 ∧
    t.block.outB.toNat = t.block.lsamp.toNat / 2 ^ 5

/-! ### Runs -/

/-- A trace that is well formed where it starts is performed to its last word without a stop (30_encoding.md R78). A trace
as the schedule is the model's (log 1), and so is that it goes on after a reset (log 14). -/
def Obligations.WellFormedTraceRunsToItsEnd : Prop :=
  ∀ (s : State) (ws : List CmdWord), traceWellFormed s.block.tickState ws = true →
    ∃ t : State, runSteps ws.length (s.withTrace ws) = .next t ∧ t.schedule = []

/-- A trace that is not well formed where it starts has no meaning: the machine stops in it (30_encoding.md R78, 93 V7; the
stop is the model's, logs 4 and 5, as are the schedule and its going on after a reset, logs 1 and 14). -/
def Obligations.IllFormedTraceStops : Prop :=
  ∀ (s : State) (ws : List CmdWord), traceWellFormed s.block.tickState ws = false →
    ∃ f : Fault, runSteps ws.length (s.withTrace ws) = .fault f

/-- Without a reset, the output history grows by one pair for each engine step of the trace (44_output_stage.md R154;
60_exceptions.md R214). A trace as the schedule is the model's (log 1). -/
def Obligations.HistoryCountsEngineSteps : Prop :=
  ∀ (s t : State) (ws : List CmdWord), 0xC200000000#40 ∉ ws →
    runSteps ws.length (s.withTrace ws) = .next t →
    t.block.history.length = s.block.history.length + ws.count 0xC100000000#40

/-- In a started block without a reset and without an overrun, every timer event is served by exactly one engine step,
but for the one still pending (20_memory.md R65). A trace as the schedule is the model's (log 1). -/
def Obligations.EveryTickIsServedByOneEngineStep : Prop :=
  ∀ (s t : State) (ws : List CmdWord), s.block.run = true → 0xC200000000#40 ∉ ws →
    runSteps ws.length (s.withTrace ws) = .next t → t.block.overrun = false →
    s.block.tickPend.toNat + ws.count 0xC000000000#40 = ws.count 0xC100000000#40 + t.block.tickPend.toNat

/-- Every endless run of the model is fair: `TICKPEND` does not stay 1 for ever (43_modulation_engine.md R132). It rests on
the model's choices that a schedule is finite, so that every endless run takes finitely many arrivals (log 26), and that
a pending engine step follows it (log 3); it says nothing of executions with endlessly many arrivals. -/
def Obligations.EveryExecutionIsFair : Prop := ∀ e : Nat → State, IsExecution e → IsFair e

/-- A started block at its reset values emits the first entry of the Sine table at every tick (70_reset_and_hazards.md
R234), for the device's table whatever it holds. A trace as the schedule is the model's (log 1). -/
def Obligations.UnconfiguredBlockEmitsTheFirstSample : Prop :=
  ∀ n : Nat, ∃ t : State,
    runSteps (1 + 2 * n) (State.reset.withTrace
      (traceWords (Instr.wrCtrl 1 :: (List.replicate n [Instr.evtTimer, Instr.evtEngine]).flatten))) = .next t ∧
    t.block.history =
      List.replicate n
        (BitVec.ofNat 8 ((Config.wt .sine 0).toNat / 2 ^ 4), BitVec.ofNat 7 ((Config.wt .sine 0).toNat / 2 ^ 5)) ∧
    t.block.cphase = 0 ∧ t.block.lphase = 0

/-- The startup sequence leaves the block configured and started, every other element at its reset value
(70_reset_and_hazards.md R234; the order of the five writes is the model's, log 19). -/
def Obligations.StartupConfiguresAndStartsTheBlock : Prop :=
  ∀ (c : HostDefaults) (ct lt : Word),
    tuningWord (min c.carrierHz 1000) c.sampleRateHz = some ct → tuningWord (min c.lfoHz 10) c.sampleRateHz = some lt →
    ∃ (is : List Instr) (t : State), startupSteps c none = some is ∧
      runSteps is.length (State.reset.withTrace (traceWords is)) = .next t ∧
      t.block = { State.reset.block with
        ctw := ct, ltw := lt, depth := c.depth, cshape := c.cshape, lshape := c.lshape, run := true }

/-! ### The frequency mapper and the reference tables -/

/-- `TuningWord` and its domain (42_frequency_mapper.md R120, R122): the floor of the exact quotient plus one half, given
exactly where it fits 32 bits, which it does for every `F` up to `S * (1 - 2^-32)` and for a clamped carrier frequency
at every sample rate of 1001 Hz or more (R122's "every sample rate above 1000 Hz" fails just above 1000; log 25). -/
def Obligations.TuningWordRoundsTheExactQuotient : Prop :=
  ∀ F S : ℚ, 0 ≤ F → 0 < S →
    (F * 2 ^ 32 / S + 1 / 2 < 2 ^ 32 →
      ∃ T : Word, tuningWord F S = some T ∧ (T.toNat : Int) = ⌊F * 2 ^ 32 / S + 1 / 2⌋) ∧
    (2 ^ 32 ≤ F * 2 ^ 32 / S + 1 / 2 → tuningWord F S = none) ∧
    (F ≤ S * (1 - 1 / 2 ^ 32) → F * 2 ^ 32 / S + 1 / 2 < 2 ^ 32) ∧
    (1001 ≤ S → ∃ T : Word, tuningWord (min F 1000) S = some T)

/-- The round-trip property with its true bound (42_frequency_mapper.md R126), and the sufficient condition for one index
step. -/
def Obligations.FrequencyRoundTripWithinTheBound : Prop :=
  ∀ (F S : ℚ) (T : Word), 0 < F → 0 < S → tuningWord F S = some T →
    let k : Int := ⌊S / F + 1 / 2⌋
    let e : Int := k * (T.toNat : Int) - 2 ^ 32
    |(e : ℚ)| ≤ S / (2 * F) + F * 2 ^ 31 / S + 1 / 4 ∧
    (F ≤ S / 1024 → S / (2 * F) + 1 / 4 ≤ 2 ^ 21 → |e| ≤ 2 ^ 22)

/-- The reference Triangle, Square, SawDown and SawUp tables (40_wavetable_bank.md R105 to R108). -/
def Obligations.ReferenceTablesFollowTheirFormulas : Prop :=
  (∀ i : Index,
    let n : Int := (i.toNat : Int)
    ((refWt .triangle i).toNat : Int) =
      min 4095 (2048 + 8 * (if n < 256 then n else if n < 768 then 512 - n else n - 1024)) ∧
    (refWt .square i).toNat = (if i.toNat < 512 then 4095 else 0) ∧
    ((refWt .sawDown i).toNat : Int) = 4095 - 4 * n ∧
    (refWt .sawUp i).toNat = 4 * i.toNat) ∧
  tableSum refWt .triangle = 2097151 ∧ tableSum refWt .square = 2096640 ∧ tableSum refWt .sawDown = 2098176 ∧
  tableSum refWt .sawUp = 2095104
end

