-- ==== Sys2Proof/Laws/Config.lean ====
section
/-! SUPPORT. What is known of the device's open parameters: the constraints of 00_scope.md R8. -/

namespace Sys2Proof.Machine

/-- `TICK_LATENCY` is positive (R8). -/
theorem tickLatency_pos : 0 < (Config.tickLatency : Nat) := Config.tickLatency.pos

/-- `SAMPLE_RATE_HZ` is positive (R8). -/
theorem sampleRateHz_pos : 0 < Config.sampleRateHz := Config.hostParams.rate_pos

/-- The host's clamp leaves the default carrier frequency, which is within the bound of R7. -/
@[simp] theorem clampCarrier_default : clampCarrier Config.defaultCarrierHz = Config.defaultCarrierHz :=
  min_eq_left Config.hostParams.carrier_le

/-- The host's clamp leaves the default LFO frequency, which is within the bound of R7. -/
@[simp] theorem clampLfo_default : clampLfo Config.defaultLfoHz = Config.defaultLfoHz :=
  min_eq_left Config.hostParams.lfo_le

/-- The sample rate is greater than every frequency the startup passes to the mapper (R8). -/
theorem rateCovers_defaults :
    rateCovers Config.sampleRateHz (mapperInputs Config.defaultCarrierHz Config.defaultLfoHz) := by
  intro F hF
  simp only [mapperInputs, clampCarrier_default, clampLfo_default, List.mem_cons, List.not_mem_nil, or_false] at hF
  rcases hF with rfl | rfl
  · exact Config.hostParams.carrier_lt_rate
  · exact Config.hostParams.lfo_lt_rate

/-- A sample rate above both bounds of R7 covers whatever the host passes, since it clamps first (R123). -/
theorem rateCovers_of_bounds {S : ℚ} (h : carrierMaxHz < S) (carrierHz lfoHz : ℚ) :
    rateCovers S (mapperInputs carrierHz lfoHz) := by
  have hb : lfoMaxHz ≤ carrierMaxHz := by norm_num [lfoMaxHz, carrierMaxHz]
  intro F hF
  simp only [mapperInputs, List.mem_cons, List.not_mem_nil, or_false] at hF
  rcases hF with rfl | rfl
  · exact lt_of_le_of_lt (min_le_right _ _) h
  · exact lt_of_le_of_lt ((min_le_right _ _).trans hb) h

end Sys2Proof.Machine
end

