-- ==== Sys2Proof/Laws/Decode.lean ====
section
/-! SUPPORT. The fields of a word and the word of its fields, as bits and as numbers; the register numbers. -/

namespace Sys2Proof

/-- A packed word as a number (30_encoding.md R71). -/
theorem packWord_toNat (k r : BitVec 2) (g : BitVec 4) (d : Word) :
    (packWord k r g d).toNat = k.toNat * 2 ^ 38 + r.toNat * 2 ^ 36 + g.toNat * 2 ^ 32 + d.toNat := by
  have e : (packWord k r g d).toNat = (((k.toNat <<< 2 ||| r.toNat) <<< 4) ||| g.toNat) <<< 32 ||| d.toNat := by
    show (((k ++ r : BitVec 4) ++ g : BitVec 8) ++ d : BitVec 40).toNat = _
    rw [BitVec.toNat_append, BitVec.toNat_append, BitVec.toNat_append]
  rw [e, ← Nat.shiftLeft_add_eq_or_of_lt r.isLt, ← Nat.shiftLeft_add_eq_or_of_lt g.isLt,
    ← Nat.shiftLeft_add_eq_or_of_lt d.isLt]
  simp [Nat.shiftLeft_eq]
  omega

theorem kindField_toNat (w : CmdWord) : (kindField w).toNat = w.toNat / 2 ^ 38 := by
  have := w.isLt
  simp [kindField, Nat.shiftRight_eq_div_pow]
  omega

theorem rsvField_toNat (w : CmdWord) : (rsvField w).toNat = w.toNat / 2 ^ 36 % 4 := by
  simp [rsvField, Nat.shiftRight_eq_div_pow]

theorem regField_toNat (w : CmdWord) : (regField w).toNat = w.toNat / 2 ^ 32 % 16 := by
  simp [regField, Nat.shiftRight_eq_div_pow]

theorem dataField_toNat (w : CmdWord) : (dataField w).toNat = w.toNat % 2 ^ 32 := by
  simp [dataField]

/-- The fields of a packed word are the fields it was packed from (30_encoding.md R71). -/
theorem fields_of_packWord (k r : BitVec 2) (g : BitVec 4) (d : Word) :
    kindField (packWord k r g d) = k ∧ rsvField (packWord k r g d) = r ∧ regField (packWord k r g d) = g ∧
      dataField (packWord k r g d) = d := by
  have hr := r.isLt
  have hg := g.isLt
  have hd := d.isLt
  refine ⟨?_, ?_, ?_, ?_⟩ <;> apply BitVec.eq_of_toNat_eq <;>
    simp only [kindField_toNat, rsvField_toNat, regField_toNat, dataField_toNat, packWord_toNat] <;> omega

@[simp] theorem kindField_packWord (k r : BitVec 2) (g : BitVec 4) (d : Word) : kindField (packWord k r g d) = k :=
  (fields_of_packWord k r g d).1

@[simp] theorem rsvField_packWord (k r : BitVec 2) (g : BitVec 4) (d : Word) : rsvField (packWord k r g d) = r :=
  (fields_of_packWord k r g d).2.1

@[simp] theorem regField_packWord (k r : BitVec 2) (g : BitVec 4) (d : Word) : regField (packWord k r g d) = g :=
  (fields_of_packWord k r g d).2.2.1

@[simp] theorem dataField_packWord (k r : BitVec 2) (g : BitVec 4) (d : Word) : dataField (packWord k r g d) = d :=
  (fields_of_packWord k r g d).2.2.2

/-- A word is packed from its fields (30_encoding.md R71). -/
theorem packWord_of_fields (w : CmdWord) :
    packWord (kindField w) (rsvField w) (regField w) (dataField w) = w := by
  apply BitVec.eq_of_toNat_eq
  rw [packWord_toNat, kindField_toNat, rsvField_toNat, regField_toNat, dataField_toNat]
  omega

@[simp] theorem regOfNumber_regNumber (r : Reg) : regOfNumber (regNumber r) = some r := by cases r <;> rfl

theorem regNumber_of_regOfNumber {n : BitVec 4} {r : Reg} (h : regOfNumber n = some r) : regNumber r = n := by
  revert h
  revert r
  revert n
  decide

/-- The decoding of a write word on either decoder (30_encoding.md R75). -/
theorem decode_encodeWrite (r : Reg) (d : Word) :
    decodePort (encodeWrite r d) = writeOf r d ∧ decodeTrace (encodeWrite r d) = writeOf r d := by
  constructor <;> simp [decodeTrace, decodePort, encodeWrite]

end Sys2Proof
end

