-- ==== Sys2Proof/Laws/State.lean ====
section
/-! SUPPORT. What each named update of the state and the block leaves in each field, so that no later proof unfolds a
record update. -/

namespace Sys2Proof.Machine

variable (s : State) (b : Block) (p : Pins) (c : Bool)

@[simp] theorem State.finish_block : (s.finish b p).block = b := rfl
@[simp] theorem State.finish_out : (s.finish b p).out = p := rfl
@[simp] theorem State.finish_schedule : (s.finish b p).schedule = s.schedule := rfl

@[simp] theorem raise_cphase (f : FaultFlag) : (raise f b).cphase = b.cphase := by cases f <;> rfl
@[simp] theorem raiseIf_cphase (f : FaultFlag) : (raiseIf c f b).cphase = b.cphase := by cases f <;> rfl
@[simp] theorem raise_lphase (f : FaultFlag) : (raise f b).lphase = b.lphase := by cases f <;> rfl
@[simp] theorem raiseIf_lphase (f : FaultFlag) : (raiseIf c f b).lphase = b.lphase := by cases f <;> rfl
@[simp] theorem raise_ctw (f : FaultFlag) : (raise f b).ctw = b.ctw := by cases f <;> rfl
@[simp] theorem raiseIf_ctw (f : FaultFlag) : (raiseIf c f b).ctw = b.ctw := by cases f <;> rfl
@[simp] theorem raise_ltw (f : FaultFlag) : (raise f b).ltw = b.ltw := by cases f <;> rfl
@[simp] theorem raiseIf_ltw (f : FaultFlag) : (raiseIf c f b).ltw = b.ltw := by cases f <;> rfl
@[simp] theorem raise_depth (f : FaultFlag) : (raise f b).depth = b.depth := by cases f <;> rfl
@[simp] theorem raiseIf_depth (f : FaultFlag) : (raiseIf c f b).depth = b.depth := by cases f <;> rfl
@[simp] theorem raise_cshape (f : FaultFlag) : (raise f b).cshape = b.cshape := by cases f <;> rfl
@[simp] theorem raiseIf_cshape (f : FaultFlag) : (raiseIf c f b).cshape = b.cshape := by cases f <;> rfl
@[simp] theorem raise_lshape (f : FaultFlag) : (raise f b).lshape = b.lshape := by cases f <;> rfl
@[simp] theorem raiseIf_lshape (f : FaultFlag) : (raiseIf c f b).lshape = b.lshape := by cases f <;> rfl
@[simp] theorem raise_selPrev (f : FaultFlag) : (raise f b).selPrev = b.selPrev := by cases f <;> rfl
@[simp] theorem raiseIf_selPrev (f : FaultFlag) : (raiseIf c f b).selPrev = b.selPrev := by cases f <;> rfl
@[simp] theorem raise_run (f : FaultFlag) : (raise f b).run = b.run := by cases f <;> rfl
@[simp] theorem raiseIf_run (f : FaultFlag) : (raiseIf c f b).run = b.run := by cases f <;> rfl
@[simp] theorem raise_tickPend (f : FaultFlag) : (raise f b).tickPend = b.tickPend := by cases f <;> rfl
@[simp] theorem raiseIf_tickPend (f : FaultFlag) : (raiseIf c f b).tickPend = b.tickPend := by cases f <;> rfl
@[simp] theorem raise_delta (f : FaultFlag) : (raise f b).delta = b.delta := by cases f <;> rfl
@[simp] theorem raiseIf_delta (f : FaultFlag) : (raiseIf c f b).delta = b.delta := by cases f <;> rfl
@[simp] theorem raise_csamp (f : FaultFlag) : (raise f b).csamp = b.csamp := by cases f <;> rfl
@[simp] theorem raiseIf_csamp (f : FaultFlag) : (raiseIf c f b).csamp = b.csamp := by cases f <;> rfl
@[simp] theorem raise_lsamp (f : FaultFlag) : (raise f b).lsamp = b.lsamp := by cases f <;> rfl
@[simp] theorem raiseIf_lsamp (f : FaultFlag) : (raiseIf c f b).lsamp = b.lsamp := by cases f <;> rfl
@[simp] theorem raise_outA (f : FaultFlag) : (raise f b).outA = b.outA := by cases f <;> rfl
@[simp] theorem raiseIf_outA (f : FaultFlag) : (raiseIf c f b).outA = b.outA := by cases f <;> rfl
@[simp] theorem raise_outB (f : FaultFlag) : (raise f b).outB = b.outB := by cases f <;> rfl
@[simp] theorem raiseIf_outB (f : FaultFlag) : (raiseIf c f b).outB = b.outB := by cases f <;> rfl
@[simp] theorem raise_history (f : FaultFlag) : (raise f b).history = b.history := by cases f <;> rfl
@[simp] theorem raiseIf_history (f : FaultFlag) : (raiseIf c f b).history = b.history := by cases f <;> rfl
@[simp] theorem raise_overrun_overrun : (raise .overrun b).overrun = true := rfl
@[simp] theorem raiseIf_overrun_overrun : (raiseIf c .overrun b).overrun = (b.overrun || c) := rfl
@[simp] theorem raise_cfgErr_overrun : (raise .cfgErr b).overrun = b.overrun := rfl
@[simp] theorem raiseIf_cfgErr_overrun : (raiseIf c .cfgErr b).overrun = b.overrun := rfl
@[simp] theorem raise_badCmd_overrun : (raise .badCmd b).overrun = b.overrun := rfl
@[simp] theorem raiseIf_badCmd_overrun : (raiseIf c .badCmd b).overrun = b.overrun := rfl
@[simp] theorem raise_budget_overrun : (raise .budget b).overrun = b.overrun := rfl
@[simp] theorem raiseIf_budget_overrun : (raiseIf c .budget b).overrun = b.overrun := rfl
@[simp] theorem raise_overrun_cfgErr : (raise .overrun b).cfgErr = b.cfgErr := rfl
@[simp] theorem raiseIf_overrun_cfgErr : (raiseIf c .overrun b).cfgErr = b.cfgErr := rfl
@[simp] theorem raise_cfgErr_cfgErr : (raise .cfgErr b).cfgErr = true := rfl
@[simp] theorem raiseIf_cfgErr_cfgErr : (raiseIf c .cfgErr b).cfgErr = (b.cfgErr || c) := rfl
@[simp] theorem raise_badCmd_cfgErr : (raise .badCmd b).cfgErr = b.cfgErr := rfl
@[simp] theorem raiseIf_badCmd_cfgErr : (raiseIf c .badCmd b).cfgErr = b.cfgErr := rfl
@[simp] theorem raise_budget_cfgErr : (raise .budget b).cfgErr = b.cfgErr := rfl
@[simp] theorem raiseIf_budget_cfgErr : (raiseIf c .budget b).cfgErr = b.cfgErr := rfl
@[simp] theorem raise_overrun_badCmd : (raise .overrun b).badCmd = b.badCmd := rfl
@[simp] theorem raiseIf_overrun_badCmd : (raiseIf c .overrun b).badCmd = b.badCmd := rfl
@[simp] theorem raise_cfgErr_badCmd : (raise .cfgErr b).badCmd = b.badCmd := rfl
@[simp] theorem raiseIf_cfgErr_badCmd : (raiseIf c .cfgErr b).badCmd = b.badCmd := rfl
@[simp] theorem raise_badCmd_badCmd : (raise .badCmd b).badCmd = true := rfl
@[simp] theorem raiseIf_badCmd_badCmd : (raiseIf c .badCmd b).badCmd = (b.badCmd || c) := rfl
@[simp] theorem raise_budget_badCmd : (raise .budget b).badCmd = b.badCmd := rfl
@[simp] theorem raiseIf_budget_badCmd : (raiseIf c .budget b).badCmd = b.badCmd := rfl
@[simp] theorem raise_overrun_budget : (raise .overrun b).budget = b.budget := rfl
@[simp] theorem raiseIf_overrun_budget : (raiseIf c .overrun b).budget = b.budget := rfl
@[simp] theorem raise_cfgErr_budget : (raise .cfgErr b).budget = b.budget := rfl
@[simp] theorem raiseIf_cfgErr_budget : (raiseIf c .cfgErr b).budget = b.budget := rfl
@[simp] theorem raise_badCmd_budget : (raise .badCmd b).budget = b.budget := rfl
@[simp] theorem raiseIf_badCmd_budget : (raiseIf c .badCmd b).budget = b.budget := rfl
@[simp] theorem raise_budget_budget : (raise .budget b).budget = true := rfl
@[simp] theorem raiseIf_budget_budget : (raiseIf c .budget b).budget = (b.budget || c) := rfl

/-- Raising under a true condition is raising (60_exceptions.md R201). -/
theorem raiseIf_true (f : FaultFlag) : raiseIf true f b = raise f b := by cases f <;> simp [raiseIf, raise]

/-- Raising under a false condition changes nothing. -/
theorem raiseIf_false (f : FaultFlag) : raiseIf false f b = b := by cases f <;> simp [raiseIf]

/-- A flag that is raised is set, and every other keeps its value (60_exceptions.md R201). -/
theorem faultSet_raise (f g : FaultFlag) : faultSet g (raise f b) = (decide (g = f) || faultSet g b) := by
  cases f <;> cases g <;> simp [faultSet, raise]

@[simp] theorem acknowledge_cphase : (acknowledge b).cphase = b.cphase := rfl
@[simp] theorem acknowledge_lphase : (acknowledge b).lphase = b.lphase := rfl
@[simp] theorem acknowledge_ctw : (acknowledge b).ctw = b.ctw := rfl
@[simp] theorem acknowledge_ltw : (acknowledge b).ltw = b.ltw := rfl
@[simp] theorem acknowledge_depth : (acknowledge b).depth = b.depth := rfl
@[simp] theorem acknowledge_cshape : (acknowledge b).cshape = b.cshape := rfl
@[simp] theorem acknowledge_lshape : (acknowledge b).lshape = b.lshape := rfl
@[simp] theorem acknowledge_selPrev : (acknowledge b).selPrev = b.selPrev := rfl
@[simp] theorem acknowledge_run : (acknowledge b).run = b.run := rfl
@[simp] theorem acknowledge_tickPend : (acknowledge b).tickPend = false := rfl
@[simp] theorem acknowledge_overrun : (acknowledge b).overrun = b.overrun := rfl
@[simp] theorem acknowledge_cfgErr : (acknowledge b).cfgErr = b.cfgErr := rfl
@[simp] theorem acknowledge_badCmd : (acknowledge b).badCmd = b.badCmd := rfl
@[simp] theorem acknowledge_budget : (acknowledge b).budget = b.budget := rfl
@[simp] theorem acknowledge_delta : (acknowledge b).delta = b.delta := rfl
@[simp] theorem acknowledge_csamp : (acknowledge b).csamp = b.csamp := rfl
@[simp] theorem acknowledge_lsamp : (acknowledge b).lsamp = b.lsamp := rfl
@[simp] theorem acknowledge_outA : (acknowledge b).outA = b.outA := rfl
@[simp] theorem acknowledge_outB : (acknowledge b).outB = b.outB := rfl
@[simp] theorem acknowledge_history : (acknowledge b).history = b.history := rfl

variable (a : BitVec 8) (m : BitVec 7)

@[simp] theorem emit_cphase : (emit a m b).cphase = b.cphase := rfl
@[simp] theorem emit_lphase : (emit a m b).lphase = b.lphase := rfl
@[simp] theorem emit_ctw : (emit a m b).ctw = b.ctw := rfl
@[simp] theorem emit_ltw : (emit a m b).ltw = b.ltw := rfl
@[simp] theorem emit_depth : (emit a m b).depth = b.depth := rfl
@[simp] theorem emit_cshape : (emit a m b).cshape = b.cshape := rfl
@[simp] theorem emit_lshape : (emit a m b).lshape = b.lshape := rfl
@[simp] theorem emit_selPrev : (emit a m b).selPrev = b.selPrev := rfl
@[simp] theorem emit_run : (emit a m b).run = b.run := rfl
@[simp] theorem emit_tickPend : (emit a m b).tickPend = b.tickPend := rfl
@[simp] theorem emit_overrun : (emit a m b).overrun = b.overrun := rfl
@[simp] theorem emit_cfgErr : (emit a m b).cfgErr = b.cfgErr := rfl
@[simp] theorem emit_badCmd : (emit a m b).badCmd = b.badCmd := rfl
@[simp] theorem emit_budget : (emit a m b).budget = b.budget := rfl
@[simp] theorem emit_delta : (emit a m b).delta = b.delta := rfl
@[simp] theorem emit_csamp : (emit a m b).csamp = b.csamp := rfl
@[simp] theorem emit_lsamp : (emit a m b).lsamp = b.lsamp := rfl
@[simp] theorem emit_outA : (emit a m b).outA = b.outA := rfl
@[simp] theorem emit_outB : (emit a m b).outB = b.outB := rfl
@[simp] theorem emit_history : (emit a m b).history = b.history ++ [(a, m)] := rfl

variable (now : BitVec 2)

@[simp] theorem selectorEvent_cphase : (selectorEvent b now).cphase = b.cphase := rfl
@[simp] theorem selectorEvent_lphase : (selectorEvent b now).lphase = b.lphase := rfl
@[simp] theorem selectorEvent_ctw : (selectorEvent b now).ctw = b.ctw := rfl
@[simp] theorem selectorEvent_ltw : (selectorEvent b now).ltw = b.ltw := rfl
@[simp] theorem selectorEvent_depth : (selectorEvent b now).depth = b.depth := rfl
@[simp] theorem selectorEvent_cshape : (selectorEvent b now).cshape = if risingEdge b.selPrev now 0 then shapeStep b.cshape else b.cshape := rfl
@[simp] theorem selectorEvent_lshape : (selectorEvent b now).lshape = if risingEdge b.selPrev now 1 then shapeStep b.lshape else b.lshape := rfl
@[simp] theorem selectorEvent_selPrev : (selectorEvent b now).selPrev = now := rfl
@[simp] theorem selectorEvent_run : (selectorEvent b now).run = b.run := rfl
@[simp] theorem selectorEvent_tickPend : (selectorEvent b now).tickPend = b.tickPend := rfl
@[simp] theorem selectorEvent_overrun : (selectorEvent b now).overrun = b.overrun := rfl
@[simp] theorem selectorEvent_cfgErr : (selectorEvent b now).cfgErr = b.cfgErr := rfl
@[simp] theorem selectorEvent_badCmd : (selectorEvent b now).badCmd = b.badCmd := rfl
@[simp] theorem selectorEvent_budget : (selectorEvent b now).budget = b.budget := rfl
@[simp] theorem selectorEvent_delta : (selectorEvent b now).delta = b.delta := rfl
@[simp] theorem selectorEvent_csamp : (selectorEvent b now).csamp = b.csamp := rfl
@[simp] theorem selectorEvent_lsamp : (selectorEvent b now).lsamp = b.lsamp := rfl
@[simp] theorem selectorEvent_outA : (selectorEvent b now).outA = b.outA := rfl
@[simp] theorem selectorEvent_outB : (selectorEvent b now).outB = b.outB := rfl
@[simp] theorem selectorEvent_history : (selectorEvent b now).history = b.history := rfl

variable (wt : WaveTable)

@[simp] theorem engineLatch_cphase : (engineLatch wt b).cphase = engineCphase wt b := rfl
@[simp] theorem engineLatch_lphase : (engineLatch wt b).lphase = engineLphase b := rfl
@[simp] theorem engineLatch_ctw : (engineLatch wt b).ctw = b.ctw := rfl
@[simp] theorem engineLatch_ltw : (engineLatch wt b).ltw = b.ltw := rfl
@[simp] theorem engineLatch_depth : (engineLatch wt b).depth = b.depth := rfl
@[simp] theorem engineLatch_cshape : (engineLatch wt b).cshape = b.cshape := rfl
@[simp] theorem engineLatch_lshape : (engineLatch wt b).lshape = b.lshape := rfl
@[simp] theorem engineLatch_selPrev : (engineLatch wt b).selPrev = b.selPrev := rfl
@[simp] theorem engineLatch_run : (engineLatch wt b).run = b.run := rfl
@[simp] theorem engineLatch_tickPend : (engineLatch wt b).tickPend = b.tickPend := rfl
@[simp] theorem engineLatch_overrun : (engineLatch wt b).overrun = b.overrun := rfl
@[simp] theorem engineLatch_cfgErr : (engineLatch wt b).cfgErr = b.cfgErr := rfl
@[simp] theorem engineLatch_badCmd : (engineLatch wt b).badCmd = b.badCmd := rfl
@[simp] theorem engineLatch_budget : (engineLatch wt b).budget = b.budget := rfl
@[simp] theorem engineLatch_delta : (engineLatch wt b).delta = engineDelta wt b := rfl
@[simp] theorem engineLatch_csamp : (engineLatch wt b).csamp = engineCsamp wt b := rfl
@[simp] theorem engineLatch_lsamp : (engineLatch wt b).lsamp = engineLsamp wt b := rfl
@[simp] theorem engineLatch_outA : (engineLatch wt b).outA = rescaleA (engineCsamp wt b) := rfl
@[simp] theorem engineLatch_outB : (engineLatch wt b).outB = rescaleB (engineLsamp wt b) := rfl
@[simp] theorem engineLatch_history : (engineLatch wt b).history = b.history := rfl

@[simp] theorem engineStep_cphase : (engineStep wt b).cphase = engineCphase wt b := rfl
@[simp] theorem engineStep_lphase : (engineStep wt b).lphase = engineLphase b := rfl
@[simp] theorem engineStep_ctw : (engineStep wt b).ctw = b.ctw := rfl
@[simp] theorem engineStep_ltw : (engineStep wt b).ltw = b.ltw := rfl
@[simp] theorem engineStep_depth : (engineStep wt b).depth = b.depth := rfl
@[simp] theorem engineStep_cshape : (engineStep wt b).cshape = b.cshape := rfl
@[simp] theorem engineStep_lshape : (engineStep wt b).lshape = b.lshape := rfl
@[simp] theorem engineStep_selPrev : (engineStep wt b).selPrev = b.selPrev := rfl
@[simp] theorem engineStep_run : (engineStep wt b).run = b.run := rfl
@[simp] theorem engineStep_tickPend : (engineStep wt b).tickPend = false := rfl
@[simp] theorem engineStep_overrun : (engineStep wt b).overrun = b.overrun := rfl
@[simp] theorem engineStep_cfgErr : (engineStep wt b).cfgErr = b.cfgErr := rfl
@[simp] theorem engineStep_badCmd : (engineStep wt b).badCmd = b.badCmd := rfl
@[simp] theorem engineStep_budget : (engineStep wt b).budget = (b.budget || budgetViolated (engineShifted wt b)) := rfl
@[simp] theorem engineStep_delta : (engineStep wt b).delta = engineDelta wt b := rfl
@[simp] theorem engineStep_csamp : (engineStep wt b).csamp = engineCsamp wt b := rfl
@[simp] theorem engineStep_lsamp : (engineStep wt b).lsamp = engineLsamp wt b := rfl
@[simp] theorem engineStep_outA : (engineStep wt b).outA = rescaleA (engineCsamp wt b) := rfl
@[simp] theorem engineStep_outB : (engineStep wt b).outB = rescaleB (engineLsamp wt b) := rfl
@[simp] theorem engineStep_history : (engineStep wt b).history = b.history ++ [(rescaleA (engineCsamp wt b), rescaleB (engineLsamp wt b))] := rfl

/-- The timer event touches `TICKPEND` and `OVERRUN` only (43_modulation_engine.md R131). -/
theorem timerEvent_eq :
    timerEvent b =
      { b with tickPend := b.tickPend || b.run, overrun := b.overrun || (b.run && b.tickPend) } := by
  rcases b with ⟨cp, lp, ct, lt, dp, cs, ls, sp, run, tp, ov, ce, bc, bu, de, ca, la, oa, ob, hi⟩
  cases run <;> cases tp <;> simp [timerEvent, raise]

@[simp] theorem timerEvent_cphase : (timerEvent b).cphase = b.cphase := by rw [timerEvent_eq]
@[simp] theorem timerEvent_lphase : (timerEvent b).lphase = b.lphase := by rw [timerEvent_eq]
@[simp] theorem timerEvent_ctw : (timerEvent b).ctw = b.ctw := by rw [timerEvent_eq]
@[simp] theorem timerEvent_ltw : (timerEvent b).ltw = b.ltw := by rw [timerEvent_eq]
@[simp] theorem timerEvent_depth : (timerEvent b).depth = b.depth := by rw [timerEvent_eq]
@[simp] theorem timerEvent_cshape : (timerEvent b).cshape = b.cshape := by rw [timerEvent_eq]
@[simp] theorem timerEvent_lshape : (timerEvent b).lshape = b.lshape := by rw [timerEvent_eq]
@[simp] theorem timerEvent_selPrev : (timerEvent b).selPrev = b.selPrev := by rw [timerEvent_eq]
@[simp] theorem timerEvent_run : (timerEvent b).run = b.run := by rw [timerEvent_eq]
@[simp] theorem timerEvent_tickPend : (timerEvent b).tickPend = (b.tickPend || b.run) := by rw [timerEvent_eq]
@[simp] theorem timerEvent_overrun : (timerEvent b).overrun = (b.overrun || (b.run && b.tickPend)) := by rw [timerEvent_eq]
@[simp] theorem timerEvent_cfgErr : (timerEvent b).cfgErr = b.cfgErr := by rw [timerEvent_eq]
@[simp] theorem timerEvent_badCmd : (timerEvent b).badCmd = b.badCmd := by rw [timerEvent_eq]
@[simp] theorem timerEvent_budget : (timerEvent b).budget = b.budget := by rw [timerEvent_eq]
@[simp] theorem timerEvent_delta : (timerEvent b).delta = b.delta := by rw [timerEvent_eq]
@[simp] theorem timerEvent_csamp : (timerEvent b).csamp = b.csamp := by rw [timerEvent_eq]
@[simp] theorem timerEvent_lsamp : (timerEvent b).lsamp = b.lsamp := by rw [timerEvent_eq]
@[simp] theorem timerEvent_outA : (timerEvent b).outA = b.outA := by rw [timerEvent_eq]
@[simp] theorem timerEvent_outB : (timerEvent b).outB = b.outB := by rw [timerEvent_eq]
@[simp] theorem timerEvent_history : (timerEvent b).history = b.history := by rw [timerEvent_eq]

end Sys2Proof.Machine
end

