-- ==== Sys2Proof/Laws/Ops.lean ====
section
/-! SUPPORT. One lemma per shared operation that says everything it can do; the numbers behind the datapath functions. -/

namespace Sys2Proof.Machine

/-! ### Responses and commands -/

theorem respondOk_eq (s : State) (b : Block) (v : Word) :
    respondOk s b v = .next (s.finish b (answerPins { err := false, data := v })) := rfl

theorem respondErr_eq (s : State) (f : FaultFlag) :
    respondErr s f = .next (s.finish (raise f s.block) (answerPins { err := true, data := 0 })) := rfl

/-- A read command always completes, answers the register's value and changes no element of the block. -/
theorem readCommand_eq (r : Reg) (s : State) :
    readCommand r s = .next (s.finish s.block (answerPins { err := false, data := regRead r s.block })) := rfl

/-- A write command completes with legal data. -/
theorem writeCommand_some {α : Type} (v : α) (effect : α → Block → Block) (s : State) :
    writeCommand (some v) effect s = .next (s.finish (effect v s.block) (answerPins { err := false, data := 0 })) := rfl

/-- A write command is refused without legal data. -/
theorem writeCommand_none {α : Type} (effect : α → Block → Block) (s : State) :
    writeCommand none effect s = .next (s.finish (raise .cfgErr s.block) (answerPins { err := true, data := 0 })) := rfl

/-! ### Operands -/

/-- Legal data of `CTRL`: 0 or 1 (10_state.md R25). -/
theorem ctrlData_eq (d : Word) : ctrlData d = if d.toNat ≤ 1 then some (decide (d.toNat = 1)) else none := by
  unfold ctrlData
  split
  · next h =>
    have : d = 0 ∨ d = 1 := by
      rcases Nat.le_one_iff_eq_zero_or_eq_one.mp h with h | h
      · exact .inl (BitVec.eq_of_toNat_eq (by simpa using h))
      · exact .inr (BitVec.eq_of_toNat_eq (by simpa using h))
    rcases this with rfl | rfl <;> decide
  · rfl

/-- Legal data of `DEPTH`: 0 to 255 (10_state.md R28). -/
theorem depthData_eq (d : Word) : depthData d = if d.toNat ≤ 255 then some (BitVec.ofNat 8 d.toNat) else none := by
  unfold depthData
  congr 1

/-- Legal data of `SEL`: 0 to 3 (10_state.md R31). -/
theorem selData_eq (d : Word) : selData d = if d.toNat ≤ 3 then some (BitVec.ofNat 2 d.toNat) else none := by
  unfold selData
  congr 1

/-- The code of a shape is at most 4 (30_encoding.md R79). -/
theorem shapeCode_le (sh : WaveShape) : (shapeCode sh).toNat ≤ 4 := by cases sh <;> decide

/-- The number of a shape gives it back (30_encoding.md R79). -/
@[simp] theorem shapeOfCode_shapeCode (sh : WaveShape) : shapeOfCode (shapeCode sh).toNat = some sh := by cases sh <;> rfl

/-- A number is a shape's exactly when it is at most 4 (30_encoding.md R79). -/
theorem shapeOfCode_isSome (n : Nat) : (shapeOfCode n).isSome = decide (n ≤ 4) := by
  match n with
  | 0 | 1 | 2 | 3 | 4 => rfl
  | n + 5 => simp [shapeOfCode]

/-- The shape read from a number has that number (30_encoding.md R79). -/
theorem shapeCode_of_shapeOfCode {n : Nat} {sh : WaveShape} (h : shapeOfCode n = some sh) : (shapeCode sh).toNat = n := by
  match n, h with
  | 0, h | 1, h | 2, h | 3, h | 4, h => cases h; rfl
  | n + 5, h => simp [shapeOfCode] at h

/-- `ShapeStep` on the numbers (45_host_commands.md R169). -/
theorem shapeCode_shapeStep (sh : WaveShape) : (shapeCode (shapeStep sh)).toNat = ((shapeCode sh).toNat + 1) % 5 := by
  cases sh <;> rfl

/-- Zero extension as a number (30_encoding.md R74). -/
theorem zext32_eq {n : Nat} (v : BitVec n) : zext32 v = BitVec.ofNat 32 v.toNat := by
  apply BitVec.eq_of_toNat_eq
  simp [zext32]

/-! ### The datapath functions as numbers -/

/-- The 32-bit image of a number depends on its value modulo 2^32 only. -/
theorem ofInt_emod (x : Int) : BitVec.ofInt 32 (x % 2 ^ 32) = BitVec.ofInt 32 x := by
  apply BitVec.eq_of_toNat_eq
  simp [BitVec.toNat_ofInt]

/-- `Advance` as a number (41_oscillator.md R110). -/
theorem advance_toNat (acc : Word) (inc : Int) : ((advance acc inc).toNat : Int) = ((acc.toNat : Int) + inc) % 2 ^ 32 := by
  simp [advance, BitVec.toNat_ofInt]
  omega

/-- `Advance` by an unsigned increment (41_oscillator.md R110). -/
theorem advance_natCast_toNat (acc : Word) (n : Nat) : (advance acc (n : Int)).toNat = (acc.toNat + n) % 2 ^ 32 := by
  have h := advance_toNat acc n
  omega

/-- `Index` as a number (41_oscillator.md R111). -/
theorem index_toNat (acc : Word) : (index acc).toNat = acc.toNat / 2 ^ 22 := by
  have := acc.isLt
  simp [index, idxShift, accW, log2TableLen, Nat.shiftRight_eq_div_pow]
  omega

/-- `RescaleA` as a number (44_output_stage.md R150). -/
theorem rescaleA_toNat (x : Sample) : (rescaleA x).toNat = x.toNat / 2 ^ 4 := by
  have := x.isLt
  simp [rescaleA, outAShift, Nat.shiftRight_eq_div_pow]
  omega

/-- `RescaleB` as a number (44_output_stage.md R151). -/
theorem rescaleB_toNat (x : Sample) : (rescaleB x).toNat = x.toNat / 2 ^ 5 := by
  have := x.isLt
  simp [rescaleB, outBShift, Nat.shiftRight_eq_div_pow]
  omega

/-- `wrap_s32` on numbers (00_scope.md R9). -/
theorem wrapS32_toInt (q : Int) : (wrapS32 q).toInt = (q + 2 ^ 31) % 2 ^ 32 - 2 ^ 31 := by
  simp only [wrapS32, BitVec.toInt_ofInt, Int.bmod]
  split <;> omega

/-- The budget is violated exactly outside the signed 32-bit range (43_modulation_engine.md R138). -/
theorem budgetViolated_iff (q : Int) : budgetViolated q = true ↔ q < -2 ^ 31 ∨ q > 2 ^ 31 - 1 := by
  simp only [budgetViolated, decide_eq_true_eq, wrapS32_toInt]
  omega

/-- The `STATUS` word as a number (10_state.md R24). -/
theorem statusWord_toNat (b : Block) :
    (statusWord b).toNat =
      b.tickPend.toNat + 2 * b.overrun.toNat + 4 * b.cfgErr.toNat + 8 * b.badCmd.toNat + 16 * b.budget.toNat := by
  unfold statusWord
  cases b.tickPend <;> cases b.overrun <;> cases b.cfgErr <;> cases b.badCmd <;> cases b.budget <;> rfl

end Sys2Proof.Machine
end

