-- ==== Sys2Proof/Laws/PerInstr.lean ====
section
/-! SUPPORT. Statements about every instruction, made per instruction. -/

/-- The match word of an instruction's row of spec/opcode_table.json. -/
def Sys2Proof.Laws.rowMatch : Sys2Proof.Instr → Sys2Proof.CmdWord
  | .nop => 0x0000000000
  | .wrCtrl _ => 0x4000000000
  | .wrCtw _ => 0x4200000000
  | .wrLtw _ => 0x4300000000
  | .wrDepth _ => 0x4400000000
  | .wrCshape _ => 0x4500000000
  | .wrLshape _ => 0x4600000000
  | .wrSel _ => 0x4700000000
  | .rdCtrl => 0x8000000000
  | .rdStatus => 0x8100000000
  | .rdCtw => 0x8200000000
  | .rdLtw => 0x8300000000
  | .rdDepth => 0x8400000000
  | .rdCshape => 0x8500000000
  | .rdLshape => 0x8600000000
  | .rdSel => 0x8700000000
  | .rdCphase => 0x8800000000
  | .rdLphase => 0x8900000000
  | .rdDelta => 0x8A00000000
  | .rdOuta => 0x8B00000000
  | .rdOutb => 0x8C00000000
  | .rdCsamp => 0x8D00000000
  | .rdLsamp => 0x8E00000000
  | .evtTimer => 0xC000000000
  | .evtEngine => 0xC100000000
  | .evtReset => 0xC200000000

/-- The mask of an instruction's row of spec/opcode_table.json. -/
def Sys2Proof.Laws.rowMask : Sys2Proof.Instr → Sys2Proof.CmdWord
  | .nop => 0xFFFFFFFFFF
  | .wrCtrl _ => 0xFF00000000
  | .wrCtw _ => 0xFF00000000
  | .wrLtw _ => 0xFF00000000
  | .wrDepth _ => 0xFF00000000
  | .wrCshape _ => 0xFF00000000
  | .wrLshape _ => 0xFF00000000
  | .wrSel _ => 0xFF00000000
  | .rdCtrl => 0xFFFFFFFFFF
  | .rdStatus => 0xFFFFFFFFFF
  | .rdCtw => 0xFFFFFFFFFF
  | .rdLtw => 0xFFFFFFFFFF
  | .rdDepth => 0xFFFFFFFFFF
  | .rdCshape => 0xFFFFFFFFFF
  | .rdLshape => 0xFFFFFFFFFF
  | .rdSel => 0xFFFFFFFFFF
  | .rdCphase => 0xFFFFFFFFFF
  | .rdLphase => 0xFFFFFFFFFF
  | .rdDelta => 0xFFFFFFFFFF
  | .rdOuta => 0xFFFFFFFFFF
  | .rdOutb => 0xFFFFFFFFFF
  | .rdCsamp => 0xFFFFFFFFFF
  | .rdLsamp => 0xFFFFFFFFFF
  | .evtTimer => 0xFFFFFFFFFF
  | .evtEngine => 0xFFFFFFFFFF
  | .evtReset => 0xFFFFFFFFFF

namespace Sys2Proof.Laws.EncodingRow

/-- The instruction's word lies in its row of the opcode table, and its data bits are its operand (30_encoding.md R84). -/
def Statement (i : Instr) : Prop :=
  encode i &&& rowMask i = rowMatch i ∧ encode i = rowMatch i ||| (encode i &&& ~~~ rowMask i)

theorem row_of_write (r : BitVec 4) (d : Word) (m : CmdWord) (hm : m = ((0b01#2 ++ 0#2 ++ r : BitVec 8) ++ 0#32 : CmdWord)) :
    ((0b01#2 ++ 0#2 ++ r ++ d : CmdWord) &&& 0xFF00000000 = m) ∧
      ((0b01#2 ++ 0#2 ++ r ++ d : CmdWord) = m ||| ((0b01#2 ++ 0#2 ++ r ++ d : CmdWord) &&& ~~~ 0xFF00000000)) := by
  subst hm
  have key : ∀ x : BitVec 8, (x ++ d : CmdWord) &&& 0xFF00000000 = x ++ 0#32 ∧
      (x ++ d : CmdWord) = (x ++ 0#32) ||| ((x ++ d : CmdWord) &&& ~~~ 0xFF00000000) := by
    intro x
    have e : (0xFF00000000 : CmdWord) = 0xFF#8 ++ 0#32 := by decide
    rw [e, BitVec.not_append, BitVec.and_append, BitVec.and_append, BitVec.or_append]
    have h8 : x &&& 0xFF#8 = x := BitVec.and_allOnes
    have h32 : d &&& 0xFFFFFFFF#32 = d := BitVec.and_allOnes
    simp [h8, h32]
  exact key _

theorem nop : Statement .nop := by unfold Statement; decide

theorem wrCtrl (d : Word) : Statement (.wrCtrl d) := by
  simp only [Statement, encode, encodeWrite, packWord, rowMask, rowMatch, regNumber]
  exact row_of_write _ d _ rfl

theorem wrCtw (d : Word) : Statement (.wrCtw d) := by
  simp only [Statement, encode, encodeWrite, packWord, rowMask, rowMatch, regNumber]
  exact row_of_write _ d _ rfl

theorem wrLtw (d : Word) : Statement (.wrLtw d) := by
  simp only [Statement, encode, encodeWrite, packWord, rowMask, rowMatch, regNumber]
  exact row_of_write _ d _ rfl

theorem wrDepth (d : Word) : Statement (.wrDepth d) := by
  simp only [Statement, encode, encodeWrite, packWord, rowMask, rowMatch, regNumber]
  exact row_of_write _ d _ rfl

theorem wrCshape (d : Word) : Statement (.wrCshape d) := by
  simp only [Statement, encode, encodeWrite, packWord, rowMask, rowMatch, regNumber]
  exact row_of_write _ d _ rfl

theorem wrLshape (d : Word) : Statement (.wrLshape d) := by
  simp only [Statement, encode, encodeWrite, packWord, rowMask, rowMatch, regNumber]
  exact row_of_write _ d _ rfl

theorem wrSel (d : Word) : Statement (.wrSel d) := by
  simp only [Statement, encode, encodeWrite, packWord, rowMask, rowMatch, regNumber]
  exact row_of_write _ d _ rfl

theorem rdCtrl : Statement .rdCtrl := by unfold Statement; decide

theorem rdStatus : Statement .rdStatus := by unfold Statement; decide

theorem rdCtw : Statement .rdCtw := by unfold Statement; decide

theorem rdLtw : Statement .rdLtw := by unfold Statement; decide

theorem rdDepth : Statement .rdDepth := by unfold Statement; decide

theorem rdCshape : Statement .rdCshape := by unfold Statement; decide

theorem rdLshape : Statement .rdLshape := by unfold Statement; decide

theorem rdSel : Statement .rdSel := by unfold Statement; decide

theorem rdCphase : Statement .rdCphase := by unfold Statement; decide

theorem rdLphase : Statement .rdLphase := by unfold Statement; decide

theorem rdDelta : Statement .rdDelta := by unfold Statement; decide

theorem rdOuta : Statement .rdOuta := by unfold Statement; decide

theorem rdOutb : Statement .rdOutb := by unfold Statement; decide

theorem rdCsamp : Statement .rdCsamp := by unfold Statement; decide

theorem rdLsamp : Statement .rdLsamp := by unfold Statement; decide

theorem evtTimer : Statement .evtTimer := by unfold Statement; decide

theorem evtEngine : Statement .evtEngine := by unfold Statement; decide

theorem evtReset : Statement .evtReset := by unfold Statement; decide

end Sys2Proof.Laws.EncodingRow
end

