-- ==== Sys2Proof/Laws/Step.lean ====
section
/-! SUPPORT. What fetching leaves, what a step is in terms of what was fetched, and how a run unfolds. -/

namespace Sys2Proof.Machine

/-- What is left to arrive once the next step has been fetched. -/
def fetched (s : State) : State := { s with schedule := s.schedule.tail }

theorem fetched_block (s : State) : (fetched s).block = s.block := rfl
theorem fetched_out (s : State) : (fetched s).out = s.out := rfl
theorem fetched_schedule (s : State) : (fetched s).schedule = s.schedule.tail := rfl

theorem fetch_eq (s : State) : fetch s = (nextStep s, fetched s) := by
  rcases s with ⟨b, p, _ | ⟨a, rest⟩⟩ <;> rfl

theorem nextStep_cons (b : Block) (p : Pins) (a : Arrival) (rest : List Arrival) :
    nextStep { block := b, out := p, schedule := a :: rest } = some (decodeArrival a) := rfl

theorem nextStep_nil (b : Block) (p : Pins) :
    nextStep { block := b, out := p, schedule := [] } = if b.tickPend then some (.instr .evtEngine) else none := rfl

/-- A step runs the instruction that was fetched. -/
theorem step_instr {s : State} {i : Instr} (h : nextStep s = some (.instr i)) : step s = exec i (fetched s) := by
  simp [step, fetch_eq, h]

/-- A refused word raises `BADCMD` and is answered with an error, whichever its class (45_host_commands.md R185 to
R187). -/
theorem step_refused {s : State}
    (h : nextStep s = some .reserved ∨ nextStep s = some .unmapped ∨ ∃ r, nextStep s = some (.writeToReadOnly r)) :
    step s = respondErr (fetched s) .badCmd := by
  rcases h with h | h | ⟨r, h⟩ <;> simp [step, fetch_eq, h, execReserved, execUnmapped, execWriteToReadOnly]

/-- Everything a completed step can be: an instruction, a refused word, or nothing arrives. -/
theorem step_cases {s t : State} (h : step s = .next t) :
    (∃ i, nextStep s = some (.instr i) ∧ exec i (fetched s) = .next t) ∨
    ((nextStep s = some .reserved ∨ nextStep s = some .unmapped ∨ ∃ r, nextStep s = some (.writeToReadOnly r)) ∧
      t = (fetched s).finish (raise .badCmd s.block) (answerPins { err := true, data := 0 })) ∨
    (nextStep s = none ∧ t = (fetched s).finish s.block Pins.quiet) := by
  have e := fetch_eq s
  rcases hn : nextStep s with _ | d
  · refine .inr (.inr ⟨rfl, ?_⟩)
    simp only [step, e, hn, execIdle, silentStep] at h
    exact (Host.Outcome.next.inj h).symm
  · cases d with
    | instr i => exact .inl ⟨i, rfl, by rw [← h, step_instr hn]⟩
    | reserved =>
      refine .inr (.inl ⟨.inl rfl, ?_⟩)
      rw [step_refused (.inl hn)] at h
      exact (Host.Outcome.next.inj h).symm
    | unmapped =>
      refine .inr (.inl ⟨.inr (.inl rfl), ?_⟩)
      rw [step_refused (.inr (.inl hn))] at h
      exact (Host.Outcome.next.inj h).symm
    | writeToReadOnly r =>
      refine .inr (.inl ⟨.inr (.inr ⟨r, rfl⟩), ?_⟩)
      rw [step_refused (.inr (.inr ⟨r, hn⟩))] at h
      exact (Host.Outcome.next.inj h).symm
    | notTraceWord => simp [step, e, hn] at h

@[simp] theorem runSteps_zero (s : State) : runSteps 0 s = .next s := rfl

theorem runSteps_succ_of_next {k : Nat} {s t : State} (h : step s = .next t) : runSteps (k + 1) s = runSteps k t := by
  simp [runSteps, h]

theorem runSteps_succ_of_fault {k : Nat} {s : State} {f : Fault} (h : step s = .fault f) :
    runSteps (k + 1) s = .fault f := by
  simp [runSteps, h]

/-- A run that completes takes its first step and completes from there. -/
theorem runSteps_succ_next {k : Nat} {s t : State} (h : runSteps (k + 1) s = .next t) :
    ∃ u, step s = .next u ∧ runSteps k u = .next t := by
  rcases hs : step s with u | f | r <;> simp only [runSteps, hs] at h
  · exact ⟨u, rfl, h⟩
  · cases h
  · cases h

/-- A run is the host's run of the machine. -/
theorem runSteps_eq_core_run (k : Nat) (s : State) : runSteps k s = Host.Core.run Sys2Proof.core k s := by
  induction k generalizing s with
  | zero => rfl
  | succ k ih =>
    rcases hs : step s with t | f | r <;>
      [have hc : Host.Core.step Sys2Proof.core s = .next t := hs;
       have hc : Host.Core.step Sys2Proof.core s = .fault f := hs;
       have hc : Host.Core.step Sys2Proof.core s = .refused r := hs] <;>
      simp only [runSteps, hs, Host.Core.run, hc]
    · exact ih t
    · rfl
    · rfl

end Sys2Proof.Machine
end

