-- ==== Sys2Proof/Machine/Assembler.lean ====
section
/-! DEFINITION. The line notation of steps (30_encoding.md R82, R83): how a step is written, and how a line is read.
It is a notation for tests and no part of the block (log 21). -/

namespace Sys2Proof.Machine

/-- The name of a register in a line (30_encoding.md R72, R82). -/
def regName : Reg → String
  | .ctrl => "CTRL"
  | .status => "STATUS"
  | .ctw => "CTW"
  | .ltw => "LTW"
  | .depth => "DEPTH"
  | .cshape => "CSHAPE"
  | .lshape => "LSHAPE"
  | .sel => "SEL"
  | .cphase => "CPHASE"
  | .lphase => "LPHASE"
  | .delta => "DELTA"
  | .outA => "OUTA"
  | .outB => "OUTB"
  | .csamp => "CSAMP"
  | .lsamp => "LSAMP"

/-- All mapped registers (R72). -/
def allRegs : List Reg :=
  [.ctrl, .status, .ctw, .ltw, .depth, .cshape, .lshape, .sel, .cphase, .lphase, .delta, .outA, .outB, .csamp, .lsamp]

/-- The line of a write, its value in decimal (R82). -/
def writeLine (r : Reg) (d : Word) : String := "wr " ++ regName r ++ ", " ++ toString d.toNat

/-- The line of a read (R82). -/
def readLine (r : Reg) : String := "rd " ++ regName r

/-- The line of a step (R82). -/
def stepLine : Instr → String
  | .nop => "nop"
  | .wrCtrl d => writeLine .ctrl d
  | .wrCtw d => writeLine .ctw d
  | .wrLtw d => writeLine .ltw d
  | .wrDepth d => writeLine .depth d
  | .wrCshape d => writeLine .cshape d
  | .wrLshape d => writeLine .lshape d
  | .wrSel d => writeLine .sel d
  | .rdCtrl => readLine .ctrl
  | .rdStatus => readLine .status
  | .rdCtw => readLine .ctw
  | .rdLtw => readLine .ltw
  | .rdDepth => readLine .depth
  | .rdCshape => readLine .cshape
  | .rdLshape => readLine .lshape
  | .rdSel => readLine .sel
  | .rdCphase => readLine .cphase
  | .rdLphase => readLine .lphase
  | .rdDelta => readLine .delta
  | .rdOuta => readLine .outA
  | .rdOutb => readLine .outB
  | .rdCsamp => readLine .csamp
  | .rdLsamp => readLine .lsamp
  | .evtTimer => "timer"
  | .evtEngine => "engine"
  | .evtReset => "reset"

/-- The line without its comment: `;` starts one (R82). -/
def stripComment : List Char → List Char
  | [] => []
  | c :: cs => if c = ';' then [] else c :: stripComment cs

/-- The tokens of a line, separated by blanks and commas; `cur` is the token being read, last character first. -/
def tokensFrom (cur : List Char) : List Char → List (List Char)
  | [] => if cur = [] then [] else [cur.reverse]
  | c :: cs =>
    if c = ' ' ∨ c = ',' ∨ c = '\t' then
      if cur = [] then tokensFrom [] cs else cur.reverse :: tokensFrom [] cs
    else tokensFrom (c :: cur) cs

/-- The value of a digit in a base of at most 16, letters in either case. -/
def digitValue (base : Nat) (c : Char) : Option Nat :=
  let v :=
    if '0' ≤ c ∧ c ≤ '9' then some (c.toNat - '0'.toNat)
    else if 'a' ≤ c ∧ c ≤ 'f' then some (c.toNat - 'a'.toNat + 10)
    else if 'A' ≤ c ∧ c ≤ 'F' then some (c.toNat - 'A'.toNat + 10)
    else none
  v.filter fun n => decide (n < base)

/-- The value of a string of digits, continuing from `acc`. -/
def digitsValue (base : Nat) (acc : Nat) : List Char → Option Nat
  | [] => some acc
  | c :: cs => (digitValue base c).bind fun v => digitsValue base (acc * base + v) cs

/-- A value in decimal or, after `0x`, in hexadecimal (R82). -/
def parseNat : List Char → Option Nat
  | [] => none
  | '0' :: 'x' :: c :: cs => digitsValue 16 0 (c :: cs)
  | c :: cs => digitsValue 10 0 (c :: cs)

/-- A value that fits the 32-bit `DATA` field (30_encoding.md R74). -/
def parseWord (t : List Char) : Option Word :=
  (parseNat t).bind fun n => if n < 2 ^ 32 then some (BitVec.ofNat 32 n) else none

/-- A frequency: a value, or two values with `/` between them (log 21). -/
def parseFrequency (t : List Char) : Option ℚ :=
  match t.splitOn '/' with
  | [n] => (parseNat n).map fun a => (a : ℚ)
  | [n, d] => do
    let a ← parseNat n
    let b ← parseNat d
    if b = 0 then none else some ((a : ℚ) / (b : ℚ))
  | _ => none

/-- The register a token names (R72). -/
def parseReg (t : List Char) : Option Reg := allRegs.find? fun r => decide ((regName r).toList = t)

/-- The steps a list of tokens stands for at sample rate `S`, or none where the line is no step (R82, R83). -/
def parseTokens (S : ℚ) (ts : List (List Char)) : Option (List Instr) :=
  match ts with
  | [] => some []
  | [t] =>
    if t = "nop".toList then some [.nop]
    else if t = "timer".toList then some [.evtTimer]
    else if t = "engine".toList then some [.evtEngine]
    else if t = "reset".toList then some [.evtReset]
    else if t = "tick".toList then expandPseudo S (.tick 1)
    else if t = "start".toList then expandPseudo S .start
    else if t = "press.c".toList then expandPseudo S .pressC
    else if t = "press.l".toList then expandPseudo S .pressL
    else none
  | [t, a] =>
    if t = "rd".toList then (parseReg a).map fun r => [readOf r]
    else if t = "tick".toList then (parseNat a).bind fun n => expandPseudo S (.tick n)
    else if t = "freq.c".toList then (parseFrequency a).bind fun F => expandPseudo S (.freqC F)
    else if t = "freq.l".toList then (parseFrequency a).bind fun F => expandPseudo S (.freqL F)
    else none
  | [t, a, v] =>
    if t = "wr".toList then do
      let r ← parseReg a
      let d ← parseWord v
      match writeOf r d with
      | .instr i => some [i]
      | .reserved | .writeToReadOnly _ | .unmapped | .notTraceWord => none
    else none
  | _ => none

/-- The steps one line stands for (R82, R83): none or more, or no reading where the line is not of the notation. -/
def parseLine (S : ℚ) (line : String) : Option (List Instr) :=
  parseTokens S (tokensFrom [] (stripComment line.toList))

end Sys2Proof.Machine
end

