-- ==== Sys2Proof/Tests/Slice0.lean ====
section
/-! SUPPORT. The model's own tests. Expected values come from the spec's examples and tables (95_test_vectors.md, and
where a rule is named, that rule's example), never from a run of the model. Table-dependent values use the spec's
reference contents. The last part shows, for every statement with hypotheses, that they can be met. -/

namespace Sys2Proof.Tests

open Sys2Proof Sys2Proof.Machine Sys2Proof.Statements

/-! ### Helpers -/

/-- The state a step goes to, if it goes to one. -/
def nextOf : Result → Option State
  | .next t => some t
  | .fault _ => none
  | .refused _ => none

/-- Why a step stops, if it stops with a fault. -/
def faultOf : Result → Option Fault
  | .next _ => none
  | .fault f => some f
  | .refused _ => none

/-- A state with a given block, nothing scheduled. -/
def stateOf (b : Block) : State := { State.reset with block := b }

/-- The block a step leaves. -/
def blockAfter (i : Instr) (b : Block) : Option Block := (nextOf (exec i (stateOf b))).map (·.block)

/-- The response of a step. -/
def answer (i : Instr) (b : Block) : Option Response := (nextOf (exec i (stateOf b))).bind (·.out.rsp)

/-- A block that has been started and has a tick pending. -/
def pending : Block := { Block.reset with run := true, tickPend := true }

/-- A block whose registers all hold different values. -/
def filled : Block :=
  { Block.reset with
    cphase := 0xFFFFFFF0, lphase := 0xC0000000, ctw := 0x05555555, ltw := 0x000DA741, depth := 255, cshape := .sawUp,
    lshape := .square, selPrev := 1, run := true, tickPend := true, cfgErr := true, delta := 0xFFFFFF55,
    csamp := 192, lsamp := 1024, outA := 12, outB := 32 }

/-- A trace word about to be performed on a block. -/
def withWord (b : Block) (w : CmdWord) : State := { stateOf b with schedule := [.traceWord w] }

/-! ### Well-formedness: each check refuses an ill-formed term -/

/-- 10_state.md R39: the first illegal value of each restricted register is refused, the last legal one is not. -/
theorem test_legalData :
    (Instr.wrCtrl 2).legalData = false ∧ (Instr.wrCtrl 1).legalData = true ∧
    (Instr.wrDepth 256).legalData = false ∧ (Instr.wrDepth 255).legalData = true ∧
    (Instr.wrCshape 5).legalData = false ∧ (Instr.wrCshape 4).legalData = true ∧
    (Instr.wrLshape 5).legalData = false ∧ (Instr.wrLshape 4).legalData = true ∧
    (Instr.wrSel 4).legalData = false ∧ (Instr.wrSel 3).legalData = true ∧
    (Instr.wrCtw 0xFFFFFFFF).legalData = true := by decide

/-- 30_encoding.md R78: an engine step with no tick pending, a second one for one tick, and one after a reset are
refused; two timer events before one engine step are not. -/
theorem test_stepsWellFormed :
    stepsWellFormed { run := false, pend := false } [.wrCtrl 1, .evtEngine] = false ∧
    stepsWellFormed { run := false, pend := false } [.evtTimer, .evtEngine] = false ∧
    stepsWellFormed { run := true, pend := false } [.evtTimer, .evtEngine, .evtEngine] = false ∧
    stepsWellFormed { run := true, pend := true } [.evtReset, .evtEngine] = false ∧
    stepsWellFormed { run := false, pend := false } [.wrCtrl 1, .evtTimer, .evtTimer, .evtEngine] = true := by decide

/-- 30_encoding.md R77, R78: a word with `KIND = 3` that is no event makes a trace ill formed. -/
theorem test_traceWellFormed :
    traceWellFormed { run := true, pend := false } [0xC300000000] = false ∧
    traceWellFormed { run := true, pend := false } [0xC000000001] = false ∧
    traceWellFormed { run := true, pend := false } [0xC100000000] = false ∧
    traceWellFormed { run := true, pend := false } [0x8F00000000, 0xC000000000, 0xC100000000] = true := by decide

/-! ### Decoding: words written out field by field, KIND, RSV, REG, DATA (30_encoding.md R71, R72, R77) -/

/-- `NOP` and the seven writes. -/
theorem test_decode_writes :
    decodePort (0b00#2 ++ 0b00#2 ++ 0b0000#4 ++ 0x00000000#32) = .instr .nop ∧
    decodePort (0b01#2 ++ 0b00#2 ++ 0b0000#4 ++ 0x00000001#32) = .instr (.wrCtrl 1) ∧
    decodePort (0b01#2 ++ 0b00#2 ++ 0b0010#4 ++ 0x05555555#32) = .instr (.wrCtw 89478485) ∧
    decodePort (0b01#2 ++ 0b00#2 ++ 0b0011#4 ++ 0x000DA741#32) = .instr (.wrLtw 894785) ∧
    decodePort (0b01#2 ++ 0b00#2 ++ 0b0100#4 ++ 0x000000FF#32) = .instr (.wrDepth 255) ∧
    decodePort (0b01#2 ++ 0b00#2 ++ 0b0101#4 ++ 0x00000004#32) = .instr (.wrCshape 4) ∧
    decodePort (0b01#2 ++ 0b00#2 ++ 0b0110#4 ++ 0x00000002#32) = .instr (.wrLshape 2) ∧
    decodePort (0b01#2 ++ 0b00#2 ++ 0b0111#4 ++ 0x80000001#32) = .instr (.wrSel 0x80000001) := by decide

/-- The fifteen reads. -/
theorem test_decode_reads :
    decodePort (0b10#2 ++ 0b00#2 ++ 0b0000#4 ++ 0#32) = .instr .rdCtrl ∧
    decodePort (0b10#2 ++ 0b00#2 ++ 0b0001#4 ++ 0#32) = .instr .rdStatus ∧
    decodePort (0b10#2 ++ 0b00#2 ++ 0b0010#4 ++ 0#32) = .instr .rdCtw ∧
    decodePort (0b10#2 ++ 0b00#2 ++ 0b0011#4 ++ 0#32) = .instr .rdLtw ∧
    decodePort (0b10#2 ++ 0b00#2 ++ 0b0100#4 ++ 0#32) = .instr .rdDepth ∧
    decodePort (0b10#2 ++ 0b00#2 ++ 0b0101#4 ++ 0#32) = .instr .rdCshape ∧
    decodePort (0b10#2 ++ 0b00#2 ++ 0b0110#4 ++ 0#32) = .instr .rdLshape ∧
    decodePort (0b10#2 ++ 0b00#2 ++ 0b0111#4 ++ 0#32) = .instr .rdSel ∧
    decodePort (0b10#2 ++ 0b00#2 ++ 0b1000#4 ++ 0#32) = .instr .rdCphase ∧
    decodePort (0b10#2 ++ 0b00#2 ++ 0b1001#4 ++ 0#32) = .instr .rdLphase ∧
    decodePort (0b10#2 ++ 0b00#2 ++ 0b1010#4 ++ 0#32) = .instr .rdDelta ∧
    decodePort (0b10#2 ++ 0b00#2 ++ 0b1011#4 ++ 0#32) = .instr .rdOuta ∧
    decodePort (0b10#2 ++ 0b00#2 ++ 0b1100#4 ++ 0#32) = .instr .rdOutb ∧
    decodePort (0b10#2 ++ 0b00#2 ++ 0b1101#4 ++ 0#32) = .instr .rdCsamp ∧
    decodePort (0b10#2 ++ 0b00#2 ++ 0b1110#4 ++ 0#32) = .instr .rdLsamp := by decide

/-- The three events, in a trace and on the port. -/
theorem test_decode_events :
    decodeTrace (0b11#2 ++ 0b00#2 ++ 0b0000#4 ++ 0#32) = .instr .evtTimer ∧
    decodeTrace (0b11#2 ++ 0b00#2 ++ 0b0001#4 ++ 0#32) = .instr .evtEngine ∧
    decodeTrace (0b11#2 ++ 0b00#2 ++ 0b0010#4 ++ 0#32) = .instr .evtReset ∧
    decodeTrace (0b11#2 ++ 0b01#2 ++ 0b0000#4 ++ 0#32) = .notTraceWord ∧
    decodePort (0b11#2 ++ 0b00#2 ++ 0b0010#4 ++ 0#32) = .reserved := by decide

/-- Refused words (95_test_vectors.md section 2.6; 30_encoding.md R80). -/
theorem test_decode_refused :
    decodePort 0x0000000001 = .reserved ∧ decodePort 0x0100000000 = .reserved ∧ decodePort 0x1000000000 = .reserved ∧
    decodePort 0x6200000001 = .reserved ∧ decodePort 0x8200000001 = .reserved ∧ decodePort 0x8F00000001 = .reserved ∧
    decodePort 0x4F00000000 = .unmapped ∧ decodePort 0x8F00000000 = .unmapped ∧
    decodePort 0x4100000000 = .writeToReadOnly .status ∧ decodePort 0x4800000000 = .writeToReadOnly .cphase ∧
    decodePort 0x4900000000 = .writeToReadOnly .lphase ∧ decodePort 0x4A00000000 = .writeToReadOnly .delta ∧
    decodePort 0x4B00000000 = .writeToReadOnly .outA ∧ decodePort 0x4C00000000 = .writeToReadOnly .outB ∧
    decodePort 0x4D00000000 = .writeToReadOnly .csamp ∧ decodePort 0x4E00000000 = .writeToReadOnly .lsamp := by decide

/-- The words of the table's rows (30_encoding.md R84), data 0. -/
def rowWords : List Nat :=
  [0x0000000000, 0x4000000000, 0x4200000000, 0x4300000000, 0x4400000000, 0x4500000000, 0x4600000000, 0x4700000000,
   0x8000000000, 0x8100000000, 0x8200000000, 0x8300000000, 0x8400000000, 0x8500000000, 0x8600000000, 0x8700000000,
   0x8800000000, 0x8900000000, 0x8A00000000, 0x8B00000000, 0x8C00000000, 0x8D00000000, 0x8E00000000,
   0xC000000000, 0xC100000000, 0xC200000000]

/-- Every row decodes, and its word, placed after reset, is run by the very next step to a next state. -/
theorem test_rows_run_after_reset :
    rowWords.length = 26 ∧
    ∀ w ∈ rowWords, (decodeTableWord 40 w).isSome = true ∧
      (nextOf (step (State.reset.withFetchWord 40 w))).isSome = true ∧
      nextStep (State.reset.withFetchWord 40 w) = (decodeTableWord 40 w).map Decoded.instr := by decide

/-! ### Host commands (95_test_vectors.md section 2.6) -/

/-- `NOP`: `(ok, 0)`, no state change. -/
theorem test_nop : blockAfter .nop filled = some filled ∧ answer .nop filled = some ⟨false, 0⟩ := by decide

/-- `WR.CTRL`: 1 starts, 0 does not stop, 2 is refused. -/
theorem test_wrCtrl :
    blockAfter (.wrCtrl 1) Block.reset = some { Block.reset with run := true } ∧
    blockAfter (.wrCtrl 0) pending = some pending ∧
    blockAfter (.wrCtrl 2) Block.reset = some { Block.reset with cfgErr := true } ∧
    answer (.wrCtrl 2) Block.reset = some ⟨true, 0⟩ := by decide

/-- `WR.CTW`, `WR.LTW`: every word is accepted. -/
theorem test_wrTuningWords :
    blockAfter (.wrCtw 0xFFFFFFFF) Block.reset = some { Block.reset with ctw := 0xFFFFFFFF } ∧
    blockAfter (.wrLtw 894785) Block.reset = some { Block.reset with ltw := 0x000DA741 } ∧
    answer (.wrCtw 0xFFFFFFFF) Block.reset = some ⟨false, 0⟩ := by decide

/-- `WR.DEPTH`: 255 stored; 256 and 0x80000001 refused, the upper bits not dropped. -/
theorem test_wrDepth :
    blockAfter (.wrDepth 255) Block.reset = some { Block.reset with depth := 255 } ∧
    blockAfter (.wrDepth 256) { Block.reset with depth := 7 } = some { Block.reset with depth := 7, cfgErr := true } ∧
    blockAfter (.wrDepth 0x80000001) { Block.reset with depth := 7 } =
      some { Block.reset with depth := 7, cfgErr := true } := by decide

/-- `WR.CSHAPE`, `WR.LSHAPE`: 4 is SawUp, 2 is Square; 5 and 8 are refused. -/
theorem test_wrShapes :
    blockAfter (.wrCshape 4) Block.reset = some { Block.reset with cshape := .sawUp } ∧
    blockAfter (.wrCshape 5) { Block.reset with cshape := .square } =
      some { Block.reset with cshape := .square, cfgErr := true } ∧
    blockAfter (.wrLshape 2) Block.reset = some { Block.reset with lshape := .square } ∧
    blockAfter (.wrLshape 8) { Block.reset with lshape := .triangle } =
      some { Block.reset with lshape := .triangle, cfgErr := true } := by decide

/-- `WR.SEL`: press, hold, release. -/
theorem test_wrSel_press :
    blockAfter (.wrSel 1) { Block.reset with cshape := .sawUp } = some { Block.reset with cshape := .sine, selPrev := 1 } ∧
    blockAfter (.wrSel 1) { Block.reset with selPrev := 1 } = some { Block.reset with selPrev := 1 } ∧
    blockAfter (.wrSel 0) { Block.reset with selPrev := 1 } = some Block.reset ∧
    blockAfter (.wrSel 4) Block.reset = some { Block.reset with cfgErr := true } := by decide

/-- `WR.SEL`: both selectors, and one held while the other is pressed. -/
theorem test_wrSel_both :
    blockAfter (.wrSel 3) { Block.reset with cshape := .triangle, lshape := .sawUp } =
      some { Block.reset with cshape := .square, lshape := .sine, selPrev := 3 } ∧
    blockAfter (.wrSel 3) { Block.reset with cshape := .triangle, lshape := .sawUp, selPrev := 2 } =
      some { Block.reset with cshape := .square, lshape := .sawUp, selPrev := 3 } := by decide

/-- The reads of the control registers and of `STATUS`. -/
theorem test_reads_control :
    answer .rdCtrl filled = some ⟨false, 1⟩ ∧ answer .rdStatus filled = some ⟨false, 5⟩ ∧
    answer .rdCtw filled = some ⟨false, 0x05555555⟩ ∧ answer .rdLtw filled = some ⟨false, 0x000DA741⟩ ∧
    answer .rdDepth filled = some ⟨false, 0x000000FF⟩ ∧ answer .rdCshape filled = some ⟨false, 4⟩ ∧
    answer .rdLshape filled = some ⟨false, 2⟩ ∧ answer .rdSel filled = some ⟨false, 1⟩ ∧
    blockAfter .rdStatus filled = some filled := by decide

/-- The reads of the datapath registers; `DELTA = -171` reads `0xFFFFFF55` (45_host_commands.md R180). -/
theorem test_reads_datapath :
    answer .rdCphase filled = some ⟨false, 0xFFFFFFF0⟩ ∧ answer .rdLphase filled = some ⟨false, 0xC0000000⟩ ∧
    answer .rdDelta filled = some ⟨false, 0xFFFFFF55⟩ ∧ answer .rdOuta filled = some ⟨false, 12⟩ ∧
    answer .rdOutb filled = some ⟨false, 32⟩ ∧ answer .rdCsamp filled = some ⟨false, 192⟩ ∧
    answer .rdLsamp filled = some ⟨false, 1024⟩ ∧ answer .rdOuta Block.reset = some ⟨false, 128⟩ := by decide

/-- `STATUS`: each flag at its bit (10_state.md R24). -/
theorem test_status_bits :
    statusWord { Block.reset with tickPend := true } = 1 ∧ statusWord { Block.reset with overrun := true } = 2 ∧
    statusWord { Block.reset with cfgErr := true } = 4 ∧ statusWord { Block.reset with badCmd := true } = 8 ∧
    statusWord { Block.reset with budget := true } = 16 := by decide

/-- A refused word on the port raises `BADCMD` and answers `(err, 0)`, an event's word among them. -/
theorem test_refused_on_port :
    (nextOf (step { State.reset with schedule := [.portWord 0x4800000000] })).map (fun t => (t.block, t.out.rsp)) =
      some ({ Block.reset with badCmd := true }, some ⟨true, 0⟩) ∧
    (nextOf (step { State.reset with schedule := [.portWord 0xC200000000] })).map (·.block.badCmd) = some true := by decide

/-! ### Timer, engine, reset -/

/-- The timer table of 95_test_vectors.md section 2.4. -/
theorem test_evtTimer :
    blockAfter .evtTimer Block.reset = some Block.reset ∧
    blockAfter .evtTimer { Block.reset with run := true } = some pending ∧
    blockAfter .evtTimer pending = some { pending with overrun := true } ∧
    blockAfter .evtTimer { Block.reset with run := true, overrun := true } = some { pending with overrun := true } := by decide

/-- An engine step on the device's unknown table: what does not depend on the table, and its pulses. -/
theorem test_evtEngine_device :
    (nextOf (exec .evtEngine (stateOf { pending with lphase := 0x80000000, ltw := 0x80000001 }))).map
        (fun t => (t.block.lphase, t.block.tickPend, t.block.history.length, t.out)) =
      some (1, false, 1, { rsp := none, tickAck := true, dacStrobe := true }) ∧
    faultOf (exec .evtEngine State.reset) = some .engineNotEnabled := by decide

/-- The example of 43_modulation_engine.md R133 (SawUp, reference contents). -/
theorem test_engineStep_example :
    engineStep refWt { pending with ctw := 0x10000000, ltw := 0x40000000, depth := 128, cshape := .sawUp, lshape := .sawUp } =
      { Block.reset with
        run := true, ctw := 0x10000000, ltw := 0x40000000, depth := 128, cshape := .sawUp, lshape := .sawUp,
        lphase := 0x40000000, cphase := 0x0C000000, lsamp := 1024, csamp := 192, delta := 0xFC000000, outA := 12,
        outB := 32, history := [(12, 32)] } := by decide +kernel

/-- Rows 2, 3 and 6 of the engine-step table of 95_test_vectors.md section 2.4. -/
theorem test_engineStep_rows :
    engineStep refWt { pending with ctw := 0x05555555, ltw := 0x80000000, depth := 255, cshape := .sawUp, lshape := .square } =
      { Block.reset with
        run := true, ctw := 0x05555555, ltw := 0x80000000, depth := 255, cshape := .sawUp, lshape := .square,
        lphase := 0x80000000, cphase := 0x00055555, lsamp := 0, csamp := 0, delta := 0xFAB00000, outA := 0, outB := 0,
        history := [(0, 0)] } ∧
    engineStep refWt { pending with
        cphase := 0x00055555, lphase := 0x80000000, ctw := 0x05555555, ltw := 0x80000000, depth := 255,
        cshape := .sawUp, lshape := .square } =
      { Block.reset with
        run := true, ctw := 0x05555555, ltw := 0x80000000, depth := 255, cshape := .sawUp, lshape := .square,
        lphase := 0, cphase := 0x0AAA00A9, lsamp := 4095, csamp := 168, delta := 0x054F55FF, outA := 10, outB := 127,
        history := [(10, 127)] } ∧
    engineStep refWt { pending with ctw := 0xFFFFFFFF, ltw := 0x80000000, depth := 255, cshape := .sawUp, lshape := .square } =
      { Block.reset with
        run := true, ctw := 0xFFFFFFFF, ltw := 0x80000000, depth := 255, cshape := .sawUp, lshape := .square,
        lphase := 0x80000000, cphase := 0x00FFFFFF, lsamp := 0, csamp := 12, delta := 0x01000000, outA := 0, outB := 0,
        history := [(0, 0)], budget := true } := by decide +kernel

/-- Rows 4 and 5 of the same table (Sine). -/
theorem test_engineStep_sine :
    engineStep refWt pending = { Block.reset with run := true, history := [(128, 64)] } ∧
    engineStep refWt { pending with ctw := 0x05555555, ltw := 0x000DA741 } =
      { Block.reset with
        run := true, ctw := 0x05555555, ltw := 0x000DA741, lphase := 0x000DA741, cphase := 0x05555555, csamp := 2311,
        outA := 144, history := [(144, 64)] } := by decide +kernel

/-- `EVT.RESET` from a filled block (10_state.md R38), a pending tick discarded. -/
theorem test_evtReset : blockAfter .evtReset filled = some Block.reset ∧ answer .evtReset filled = none := by decide

/-! ### The datapath functions -/

/-- Rows of the `ModDelta` table of 95_test_vectors.md section 2.4: the floor, the zeros, the thresholds, the wraps. -/
theorem test_modDelta :
    modDelta 2049 1 89478485 = 0x000000AA ∧ modDelta 2047 1 89478485 = 0xFFFFFF55 ∧ modDelta 0 255 1 = 0xFFFFFFFF ∧
    modDelta 4095 255 1 = 0 ∧ modDelta 4095 0 89478485 = 0 ∧ modDelta 2048 255 89478485 = 0 ∧
    modDelta 4095 128 89478485 = 0x02AA5555 ∧ modDelta 0 128 89478485 = 0xFD555555 ∧
    modDelta 0 255 2155905152 = 0x80000000 ∧ modDelta 0 255 2155905153 = 0x7FFFFFFF ∧
    modDelta 4095 255 2156958354 = 0x7FFFFFFF ∧ modDelta 4095 255 2156958355 = 0x80000000 ∧
    modDelta 1 255 4294967295 = 0x011FE000 := by decide

/-- `BUDGET` on either side of its thresholds (column B of the same table). -/
theorem test_budgetViolated :
    budgetViolated (shiftedProduct 0 255 2155905152) = false ∧ budgetViolated (shiftedProduct 0 255 2155905153) = true ∧
    budgetViolated (shiftedProduct 4095 255 2156958354) = false ∧
    budgetViolated (shiftedProduct 4095 255 2156958355) = true := by decide

/-- `Advance` and `Index` (95_test_vectors.md section 2.2; 41_oscillator.md R110). -/
theorem test_advance_index :
    advance 0xFFFFFFF0 0x05555555 = 0x05555545 ∧ advance 0xFFFFFFFF 1 = 0 ∧ advance 0 (-1) = 0xFFFFFFFF ∧
    index 0x003FFFFF = 0 ∧ index 0x00400000 = 1 ∧ index 0x7FFFFFFF = 511 ∧ index 0xFFBFFFFF = 1022 ∧
    index 0xFFFFFFFF = 1023 := by decide

/-- The rescalers (95_test_vectors.md section 2.5). -/
theorem test_rescale :
    rescaleA 15 = 0 ∧ rescaleA 16 = 1 ∧ rescaleA 2047 = 127 ∧ rescaleA 4095 = 255 ∧ rescaleB 31 = 0 ∧ rescaleB 32 = 1 ∧
    rescaleB 2311 = 72 ∧ rescaleB 4095 = 127 := by decide

/-- The ROM (95_test_vectors.md section 2.1), and no sample above it (20_memory.md R52). -/
theorem test_memRead :
    memRead refWt 21 = some 2311 ∧ memRead refWt 767 = some 1 ∧ memRead refWt 1280 = some 4095 ∧
    memRead refWt 1792 = some 0 ∧ memRead refWt 2559 = some 4095 ∧ memRead refWt 2560 = some 0 ∧
    memRead refWt 3073 = some 4091 ∧ memRead refWt 5119 = some 4092 ∧ memRead refWt 5120 = none ∧
    romAddr .sawUp 1023 = 5119 := by decide +kernel

/-- The reference Sine (40_wavetable_bank.md R104): the stated values, the sum and the symmetry. -/
theorem test_refSine :
    refWt .sine 0 = 2048 ∧ refWt .sine 256 = 4095 ∧ refWt .sine 512 = 2048 ∧ refWt .sine 768 = 1 ∧
    refWt .sine 513 = 2035 ∧ refSine.length = 1024 ∧ refSine.sum = 2097152 ∧
    ((refSine.take 512).zip (refSine.drop 512)).all (fun p => p.2 == 4096 - p.1) = true := by decide +kernel

/-! ### The host's side -/

/-- The mapper (95_test_vectors.md section 2.3): a tie goes up, and 48000 at 48000 is refused. -/
theorem test_tuningWord :
    tuningWord (375 / 67108864) 48000 = some 1 ∧ tuningWord (1125 / 67108864) 48000 = some 2 ∧
    tuningWord 440 48000 = some 39370534 ∧ tuningWord 1000 48000 = some 0x05555555 ∧
    tuningWord 47999 48000 = some 0xFFFEA27A ∧ tuningWord 1000 44100 = some 0x05CE13BD ∧
    tuningWord 48000 48000 = none ∧ tuningWord (-1) 48000 = none := by decide +kernel

/-- The round trip (95_test_vectors.md section 1.2): within one index step at 440 Hz, not at 900 Hz. -/
theorem test_returnError :
    returnTicks 440 48000 = 109 ∧ returnError 39370534 440 48000 = -3579090 ∧ returnTicks 900 48000 = 53 ∧
    returnError 80530637 900 48000 = -26843535 := by decide +kernel

/-- Pseudo-steps (30_encoding.md R83). -/
theorem test_pseudo :
    expandPseudo 48000 (.tick 2) = some [.evtTimer, .evtEngine, .evtTimer, .evtEngine] ∧
    expandPseudo 48000 (.freqL 10) = some [.wrLtw 894785] ∧
    expandPseudo 48000 .pressL = some [.wrSel 2, .wrSel 0] := by decide +kernel

/-- Startup and control cycle (70_reset_and_hazards.md R234, R235): clamped frequencies, levels, start last. -/
theorem test_startup :
    startupSteps { sampleRateHz := 48000, carrierHz := 2000, lfoHz := 10, depth := 255, cshape := .sawUp, lshape := .square }
        (some 1) =
      some [.wrCtw 0x05555555, .wrLtw 894785, .wrDepth 255, .wrCshape 4, .wrLshape 2, .wrSel 1, .wrCtrl 1] ∧
    controlCycle 48000 1000 20 300 2 = some [.wrCtw 0x05555555, .wrLtw 894785, .wrDepth 255, .wrSel 2] := by decide +kernel

/-- The line notation (30_encoding.md R82). -/
theorem test_lines :
    stepLine (.wrCtw 89478485) = "wr CTW, 89478485" ∧ stepLine .rdStatus = "rd STATUS" ∧
    parseLine 48000 "wr   CTW, 0x05555555   ; carrier" = some [.wrCtw 89478485] ∧
    parseLine 48000 "rd STATUS" = some [.rdStatus] ∧ parseLine 48000 "tick 1" = some [.evtTimer, .evtEngine] ∧
    parseLine 48000 "wr STATUS, 0" = none := by decide +kernel

/-! ### Witnesses: the hypotheses of each statement can be met, each clause at a boundary of its range -/

/-- An arrival about to be taken from a block. -/
def withArrival (b : Block) (a : Arrival) : State := { stateOf b with schedule := [a] }

theorem witness_DecodeOfEncode : Instr.nop.agent = .host ∧ (Instr.wrSel 0xFFFFFFFF).agent = .host := by decide

theorem witness_EncodeOfDecode :
    decodeTrace 0xC200000000 = .instr .evtReset ∧ decodePort 0x42FFFFFFFF = .instr (.wrCtw 0xFFFFFFFF) := by decide

theorem witness_PortDecoderFollowsTheCaseList_fields :
    rsvNum 0x3FFFFFFFFF = 3 ∧ rsvNum 0x1000000000 = 1 ∧ rsvNum 0x8F00000000 = 0 ∧
    kindNum 0 = 0 ∧ regNum 0 = 0 ∧ dataNum 0 = 0 ∧ kindNum 0x0F00000000 = 0 ∧ regNum 0x0F00000000 = 15 ∧
    kindNum 0x4000000000 = 1 ∧ kindNum 0x80FFFFFFFF = 2 ∧ dataNum 0x80FFFFFFFF = 4294967295 ∧
    kindNum 0xCF00000000 = 3 ∧ rsvNum 0xCF00000000 = 0 := by decide

theorem witness_PortDecoderFollowsTheCaseList_registers :
    ∀ n : Fin 16, rsvNum (wordOf (0x40 + n) 0) = 0 ∧ kindNum (wordOf (0x40 + n) 0) = 1 ∧ regNum (wordOf (0x40 + n) 0) = n ∧
      rsvNum (wordOf (0x80 + n) 0) = 0 ∧ kindNum (wordOf (0x80 + n) 0) = 2 ∧ regNum (wordOf (0x80 + n) 0) = n ∧
      dataNum (wordOf (0x80 + n) 0) = 0 := by decide

theorem witness_PortDecoderFollowsTheCaseList_refused :
    (arrives (withArrival filled (.portWord 0x1000000000)) (.portWord 0x1000000000) [] ∧
      decodePort 0x1000000000 = .reserved) ∧
    (arrives (withArrival filled (.portWord 0x8F00000000)) (.portWord 0x8F00000000) [] ∧
      decodePort 0x8F00000000 = .unmapped) ∧
    (arrives (withArrival filled (.portWord 0x4E00000000)) (.portWord 0x4E00000000) [] ∧
      ∃ r, decodePort 0x4E00000000 = .writeToReadOnly r) :=
  ⟨⟨rfl, rfl⟩, ⟨rfl, rfl⟩, rfl, .lsamp, rfl⟩

theorem witness_TraceDecoderAddsTheThreeEvents :
    (kindNum 0xC300000000 = 3 ∧ (0xC300000000 : CmdWord) ≠ 0xC000000000#40 ∧ (0xC300000000 : CmdWord) ≠ 0xC100000000#40 ∧
      (0xC300000000 : CmdWord) ≠ 0xC200000000#40) ∧ kindNum 0xBFFFFFFFFF ≠ 3 := by decide

theorem witness_StepRunsTheDecodedInstruction :
    (arrives (withArrival filled (.traceWord 0xC200000000)) (.traceWord 0xC200000000) [] ∧
      decodeTrace 0xC200000000 = .instr .evtReset) ∧
    (arrives (withArrival filled (.portWord 0x8A00000000)) (.portWord 0x8A00000000) [] ∧
      decodePort 0x8A00000000 = .instr .rdDelta) ∧
    arrives (withArrival filled (.portWordUnderReset 0x4000000001)) (.portWordUnderReset 0x4000000001) [] :=
  ⟨⟨rfl, rfl⟩, ⟨rfl, rfl⟩, rfl⟩

theorem witness_RefusedWordsRaiseBadcmd_words :
    rsvNum 0x7F00000000 ≠ 0 ∧ (kindNum 0x0000000001 = 0 ∧ dataNum 0x0000000001 ≠ 0) ∧
    (kindNum 0x0100000000 = 0 ∧ regNum 0x0100000000 ≠ 0) ∧ (kindNum 0x8200000001 = 2 ∧ dataNum 0x8200000001 ≠ 0) ∧
    kindNum 0xC000000000 = 3 ∧ (kindNum 0x4F00000000 = 1 ∧ regNum 0x4F00000000 = 15) ∧
    (kindNum 0x8F00000000 = 2 ∧ regNum 0x8F00000000 = 15) ∧ (kindNum 0x4100000000 = 1 ∧ regNum 0x4100000000 = 1) ∧
    (kindNum 0x4800000000 = 1 ∧ regNum 0x4800000000 = 8) ∧ (kindNum 0x4E00000000 = 1 ∧ regNum 0x4E00000000 = 14) := by decide

theorem witness_RefusedWordsRaiseBadcmd_arrivals :
    arrives (withArrival filled (.portWord 0xC000000000)) (.portWord 0xC000000000) [] ∧
    arrives (withArrival filled (.traceWord 0x4800000000)) (.traceWord 0x4800000000) [] ∧ kindNum 0x4800000000 ≠ 3 :=
  ⟨rfl, rfl, by decide⟩

theorem witness_NonTraceWordStops :
    arrives (withArrival filled (.traceWord 0xC300000000)) (.traceWord 0xC300000000) [] ∧ kindNum 0xC300000000 = 3 ∧
    (0xC300000000 : CmdWord) ≠ 0xC000000000#40 ∧ (0xC300000000 : CmdWord) ≠ 0xC100000000#40 ∧
    (0xC300000000 : CmdWord) ≠ 0xC200000000#40 :=
  ⟨rfl, by decide⟩

theorem witness_EmptyScheduleServesThePendingTick :
    ((stateOf pending).schedule = [] ∧ (stateOf pending).block.tickPend = true) ∧
    (State.reset.schedule = [] ∧ State.reset.block.tickPend = false) := by decide

theorem witness_writes :
    ((2 : Word).toNat > 1 ∧ (0xFFFFFFFF : Word).toNat > 1) ∧ ((256 : Word).toNat > 255 ∧ (255 : Word).toNat ≤ 255) ∧
    ((5 : Word).toNat > 4 ∧ (4 : Word).toNat ≤ 4) ∧ ((4 : Word).toNat > 3 ∧ (3 : Word).toNat ≤ 3) := by decide

theorem witness_RepeatedWriteEqualsOne :
    Instr.wrSel 3 ∈ [Instr.wrCtrl 3, .wrCtw 3, .wrLtw 3, .wrDepth 3, .wrCshape 3, .wrLshape 3, .wrSel 3] ∧
    ∃ t, exec (.wrSel 3) State.reset = .next t ∧ t.block.cshape = .triangle :=
  ⟨by decide, _, rfl, by decide⟩

theorem witness_ReadReturnsWhatWasWritten :
    (Instr.wrDepth 255, Instr.rdDepth) ∈ [(Instr.wrCtw 255, Instr.rdCtw), (.wrLtw 255, .rdLtw), (.wrDepth 255, .rdDepth),
      (.wrCshape 255, .rdCshape), (.wrLshape 255, .rdLshape), (.wrSel 255, .rdSel)] ∧
    (Instr.wrDepth 255).legalData = true ∧ (Instr.wrCtw 255).legalData = true ∧ (Instr.wrLtw 255).legalData = true ∧
    (Instr.wrCshape 4).legalData = true ∧ (Instr.wrLshape 4).legalData = true ∧ (Instr.wrSel 3).legalData = true := by decide

theorem witness_TimerEventSetsPendingOrOverrun :
    State.reset.block.run = false ∧ ((stateOf pending).block.run = true ∧ (stateOf pending).block.tickPend = true) ∧
    ((stateOf { Block.reset with run := true }).block.run = true ∧
      (stateOf { Block.reset with run := true }).block.tickPend = false) := by decide

theorem witness_pending_tick : (stateOf filled).block.tickPend = true ∧ State.reset.block.tickPend = false := by decide

theorem witness_ResetGivesEveryElementItsValue :
    arrives (withArrival filled (.portWordUnderReset 0x4000000001)) (.portWordUnderReset 0x4000000001) [] := rfl

theorem reset_inv : State.reset.block.Inv := by constructor <;> decide

theorem witness_EveryStepKeepsTheStateInvariant :
    (withWord pending 0xC100000000).block.Inv ∧ ∃ t, step (withWord pending 0xC100000000) = .next t :=
  ⟨by constructor <;> decide, _, rfl⟩

theorem witness_ReachableStatesMeetTheStateInvariant :
    ∃ t, runSteps 3 { State.reset with
      schedule := [.portWord 0x4000000001, .traceWord 0xC000000000, .traceWord 0xC100000000] } = .next t ∧
      t.block.history.length = 1 :=
  ⟨_, rfl, rfl⟩

theorem witness_EveryStepKeepsTheBlockAtRestUntilStart :
    (withWord Block.reset 0xC000000000).block.RestUntilStart ∧ ∃ t, step (withWord Block.reset 0xC000000000) = .next t :=
  ⟨by intro _; decide, _, rfl⟩

theorem witness_EveryStepKeepsTheLastPairOnTheOutputs :
    (withWord { pending with history := [(128, 64)] } 0xC100000000).block.LastPairOnOutputs ∧
    ∃ t, step (withWord { pending with history := [(128, 64)] } 0xC100000000) = .next t :=
  ⟨by rintro p h; cases h; rfl, _, rfl⟩

theorem witness_OnlyResetClearsRunAndFlags :
    ∃ t, step (withWord filled 0x4000000000) = .next t ∧
      nextStep (withWord filled 0x4000000000) ≠ some (.instr .evtReset) ∧
      faultSet .cfgErr (withWord filled 0x4000000000).block = true ∧ (withWord filled 0x4000000000).block.run = true :=
  ⟨_, rfl, by decide, by decide, by decide⟩

theorem witness_OnlyEngineAndResetWriteTheDatapath :
    ∃ t, step (withWord filled 0x4800000000) = .next t ∧
      nextStep (withWord filled 0x4800000000) ≠ some (.instr .evtEngine) ∧
      nextStep (withWord filled 0x4800000000) ≠ some (.instr .evtReset) :=
  ⟨_, rfl, by decide, by decide⟩

theorem witness_EngineAndTimerWriteNoControlRegister :
    (∃ t, step (withWord filled 0xC100000000) = .next t ∧
      nextStep (withWord filled 0xC100000000) = some (.instr .evtEngine)) ∧
    ∃ t, step (withWord filled 0xC000000000) = .next t ∧
      nextStep (withWord filled 0xC000000000) = some (.instr .evtTimer) :=
  ⟨⟨_, rfl, by decide⟩, _, rfl, by decide⟩

theorem witness_HostCommandsCompleteWithOneResponse :
    (Instr.wrDepth 256).agent = .host ∧ (Instr.wrDepth 256).legalData = false ∧ Instr.rdLsamp.agent = .host ∧
    Instr.rdLsamp.legalData = true := by decide

theorem witness_OneStepRaisesAtMostOneFault :
    ∃ t, step (withWord Block.reset 0x4400000100) = .next t ∧ faultSet .cfgErr Block.reset = false ∧
      faultSet .cfgErr t.block = true :=
  ⟨_, rfl, by decide, by decide⟩

theorem witness_EachAgentRaisesItsOwnFault :
    (∃ t, step (withWord pending 0xC000000000) = .next t ∧ faultSet .overrun pending = false ∧
      faultSet .overrun t.block = true) ∧
    (∃ t, step (withWord pending 0x4700000004) = .next t ∧ faultSet .cfgErr pending = false ∧
      faultSet .cfgErr t.block = true) ∧
    ∃ t, step (withWord pending 0x4F00000000) = .next t ∧ faultSet .badCmd pending = false ∧
      faultSet .badCmd t.block = true :=
  ⟨⟨_, rfl, rfl, rfl⟩, ⟨_, rfl, rfl, rfl⟩, _, rfl, rfl, rfl⟩

theorem witness_OnlyEngineStepsEmitAndEachEmitsOnePair :
    (∃ t, step (withWord filled 0xC100000000) = .next t ∧
      nextStep (withWord filled 0xC100000000) = some (.instr .evtEngine)) ∧
    (∃ t, step (withWord filled 0xC200000000) = .next t ∧
      nextStep (withWord filled 0xC200000000) = some (.instr .evtReset)) ∧
    ∃ t, step (withWord filled 0x8100000000) = .next t ∧
      nextStep (withWord filled 0x8100000000) ≠ some (.instr .evtEngine) ∧
      nextStep (withWord filled 0x8100000000) ≠ some (.instr .evtReset) :=
  ⟨⟨_, rfl, by decide⟩, ⟨_, rfl, by decide⟩, _, rfl, by decide, by decide⟩

theorem witness_RomAddressIsShapeThenIndex : (5119 : RomAddr).toNat < 5120 ∧ (0 : RomAddr).toNat < 5120 := by decide

/-- Two different tables that agree at the two entries an engine step reads. -/
theorem witness_EngineReadsTwoTableEntries :
    let wt : WaveTable := fun sh i => if sh = .triangle then 0 else refWt sh i
    wt pending.lshape (index (engineLphase pending)) = refWt pending.lshape (index (engineLphase pending)) ∧
    wt pending.cshape (index (engineCphase wt pending)) = refWt pending.cshape (index (engineCphase wt pending)) ∧
    wt .triangle 0 ≠ refWt .triangle 0 := by decide +kernel

theorem witness_ModDeltaIsTheWrappedFloor :
    ((0 : Depth) = 0 ∨ (4095 : Sample) = 2048 ∨ (1 : Word) = 0) ∧ ((255 : Depth) = 0 ∨ (2048 : Sample) = 2048 ∨ (1 : Word) = 0) ∧
    ((255 : Depth) = 0 ∨ (4095 : Sample) = 2048 ∨ (0 : Word) = 0) := by decide

theorem witness_BitBudgetHoldsExactlyUpToTheBound :
    (2156958354 : Word).toNat < 2156958355 ∧ (2147483648 : Word).toNat ≤ 2 ^ 31 ∧ (2155905152 : Word).toNat ≤ 2155905152 := by
  decide

theorem witness_BudgetIsRaisedExactlyOutsideTheRange :
    (stateOf { pending with ctw := 0xFFFFFFFF, depth := 255 }).block.tickPend = true := by decide

theorem witness_ZeroDepthLeavesTheCarrierUnmodulated :
    (stateOf { pending with ctw := 0xFFFFFFFF }).block.tickPend = true ∧
    (stateOf { pending with ctw := 0xFFFFFFFF }).block.depth = 0 := by decide

theorem witness_traces :
    traceWellFormed State.reset.block.tickState [0x4000000001, 0xC000000000, 0xC000000000, 0xC100000000] = true ∧
    traceWellFormed State.reset.block.tickState [0xC000000000, 0xC100000000] = false := by decide

theorem witness_HistoryCountsEngineSteps :
    0xC200000000#40 ∉ [0xC000000000#40, 0xC100000000#40] ∧
    ∃ t, runSteps 2 ((stateOf { Block.reset with run := true }).withTrace [0xC000000000#40, 0xC100000000#40]) = .next t :=
  ⟨by decide, _, rfl⟩

theorem witness_EveryTickIsServedByOneEngineStep :
    (stateOf { Block.reset with run := true }).block.run = true ∧ 0xC200000000#40 ∉ [0xC000000000#40, 0xC100000000#40] ∧
    ∃ t, runSteps 2 ((stateOf { Block.reset with run := true }).withTrace [0xC000000000#40, 0xC100000000#40]) = .next t ∧
      t.block.overrun = false :=
  ⟨rfl, by decide, _, rfl, rfl⟩

/-- An endless run that starts with a tick pending: the engine serves it, and then nothing arrives. -/
def servedRun : Nat → State
  | 0 => stateOf pending
  | 1 => (stateOf pending).finish (engineStep Config.wt pending) enginePins
  | _ + 2 => (stateOf pending).finish (engineStep Config.wt pending) Pins.quiet

theorem witness_EveryExecutionIsFair :
    IsExecution servedRun ∧ (servedRun 0).block.tickPend = true ∧ IsExecution (fun _ => State.reset) :=
  ⟨fun | 0 | 1 | _ + 2 => rfl, rfl, fun _ => rfl⟩

/-- The constraints of 00_scope.md R8 hold of the source's own figures, a carrier of 1000 Hz at 48000 Hz, and of none with a
carrier at the sample rate. -/
theorem test_rateCovers : rateCovers 48000 (mapperInputs 2000 20) ∧ ¬ rateCovers 1000 (mapperInputs 2000 20) := by
  norm_num [rateCovers, mapperInputs, clampCarrier, clampLfo, carrierMaxHz, lfoMaxHz]

theorem witness_StartupConfiguresAndStartsTheBlock :
    tuningWord (min 440 1000) 48000 = some 39370534 ∧ tuningWord (min 1 10) 48000 = some 89478 := by decide +kernel

theorem witness_TuningWordRoundsTheExactQuotient :
    ((0 : ℚ) ≤ 1000 ∧ (0 : ℚ) < 48000 ∧ (1000 : ℚ) * 2 ^ 32 / 48000 + 1 / 2 < 2 ^ 32) ∧
    (2 : ℚ) ^ 32 ≤ 48000 * 2 ^ 32 / 48000 + 1 / 2 ∧ (47999 : ℚ) ≤ 48000 * (1 - 1 / 2 ^ 32) ∧ (1001 : ℚ) ≤ 1001 := by
  norm_num

theorem witness_FrequencyRoundTripWithinTheBound :
    ((0 : ℚ) < 10 ∧ (0 : ℚ) < 48000 ∧ tuningWord 10 48000 = some 894785) ∧
    ((10 : ℚ) ≤ 48000 / 1024 ∧ (48000 : ℚ) / (2 * 10) + 1 / 4 ≤ 2 ^ 21) :=
  ⟨by decide +kernel, by norm_num⟩

end Sys2Proof.Tests
end

/-! PROOFS. The state and its invariants (10_state.md R22, R34, R36, R38). A completed step is an engine step, a timer
event, a reset event, or one that leaves the datapath and the tick condition alone; each invariant is then checked
against these four. -/

namespace Sys2Proof.Machine

variable {s t : State} {b b' : Block}

/-! ### What a step leaves of the block -/

/-- `b'` holds the datapath of `b`: the accumulators, the delta, the latches, the outputs, the output history and `BUDGET`,
which only the engine step and the reset event write (10_state.md R22; 60_exceptions.md R213). -/
structure Block.DatapathFrame (b b' : Block) : Prop where
  cphase : b'.cphase = b.cphase := by rfl
  lphase : b'.lphase = b.lphase := by rfl
  delta : b'.delta = b.delta := by rfl
  csamp : b'.csamp = b.csamp := by rfl
  lsamp : b'.lsamp = b.lsamp := by rfl
  outA : b'.outA = b.outA := by rfl
  outB : b'.outB = b.outB := by rfl
  history : b'.history = b.history := by rfl
  budget : b'.budget = b.budget := by rfl

/-- What a host command keeps of the block, executed or refused (45_host_commands.md R160): the datapath, `TICKPEND`,
`OVERRUN`, and a `RUN` of 1. -/
structure Block.HostFrame (b b' : Block) : Prop extends b.DatapathFrame b' where
  tickPend : b'.tickPend = b.tickPend := by rfl
  overrun : b'.overrun = b.overrun := by rfl
  run_stays : b.run = true → b'.run = true := by exact id

theorem Block.HostFrame.refl (b : Block) : b.HostFrame b := {}

theorem hostFrame_raise_cfgErr (b : Block) : b.HostFrame (raise .cfgErr b) := {}

theorem hostFrame_raise_badCmd (b : Block) : b.HostFrame (raise .badCmd b) := {}

theorem datapathFrame_timerEvent (b : Block) : b.DatapathFrame (timerEvent b) := by constructor <;> simp

theorem agent_eq_timer_iff {i : Instr} : i.agent = .timer ↔ i = .evtTimer := by cases i <;> simp [Instr.agent]

theorem agent_eq_engine_iff {i : Instr} : i.agent = .engine ↔ i = .evtEngine := by cases i <;> simp [Instr.agent]

theorem agent_eq_reset_iff {i : Instr} : i.agent = .reset ↔ i = .evtReset := by cases i <;> simp [Instr.agent]

theorem respondOk_block {v : Word} (h : respondOk s b v = .next t) : t.block = b := by
  cases h; rfl

theorem readCommand_hostFrame {r : Reg} (h : readCommand r s = .next t) : s.block.HostFrame t.block := by
  rw [respondOk_block h]; exact .refl _

/-- A write command has its effect or is refused with `CFGERR`; no third thing happens (60_exceptions.md R204). -/
theorem writeCommand_block {α : Type} {data : Option α} {effect : α → Block → Block}
    (h : writeCommand data effect s = .next t) :
    (∃ v, data = some v ∧ t.block = effect v s.block) ∨ (data = none ∧ t.block = raise .cfgErr s.block) := by
  cases data with
  | some v => cases h; exact .inl ⟨v, rfl, rfl⟩
  | none => cases h; exact .inr ⟨rfl, rfl⟩

/-- A write command keeps what its effect keeps. -/
theorem writeCommand_hostFrame {α : Type} {data : Option α} {effect : α → Block → Block}
    (heff : ∀ v, s.block.HostFrame (effect v s.block)) (h : writeCommand data effect s = .next t) :
    s.block.HostFrame t.block := by
  obtain ⟨v, -, ht⟩ | ⟨-, ht⟩ := writeCommand_block h
  · rw [ht]; exact heff v
  · rw [ht]; exact hostFrame_raise_cfgErr _

/-- Every host command keeps the datapath, the tick condition and a started block (45_host_commands.md R160). -/
theorem exec_host_frame {i : Instr} (hi : i.agent = .host) (h : exec i s = .next t) : s.block.HostFrame t.block := by
  cases i <;> simp only [exec] at h
  case nop => rw [respondOk_block h]; exact .refl _
  case wrCtrl d => exact writeCommand_hostFrame (fun v => { run_stays := fun hr => by simp [hr] }) h
  case wrCtw | wrLtw | wrDepth | wrCshape | wrLshape | wrSel => exact writeCommand_hostFrame (fun v => {}) h
  case rdCtrl | rdStatus | rdCtw | rdLtw | rdDepth | rdCshape | rdLshape | rdSel | rdCphase | rdLphase | rdDelta | rdOuta
  | rdOutb | rdCsamp | rdLsamp => exact readCommand_hostFrame h
  case evtTimer | evtEngine | evtReset => cases hi

theorem execEvtTimer_block (h : execEvtTimer s = .next t) : t.block = timerEvent s.block := by
  cases h; rfl

theorem execEvtReset_block (h : execEvtReset s = .next t) : t.block = Block.reset := by
  cases h; rfl

/-- An engine step that completes found a tick pending (43_modulation_engine.md R132). -/
theorem execEvtEngine_block (h : execEvtEngine s = .next t) :
    s.block.tickPend = true ∧ t.block = engineStep Config.wt s.block := by
  unfold execEvtEngine at h
  split at h
  · next hp => cases h; exact ⟨hp, rfl⟩
  · cases h

/-- What a completed step can do to the block: the three events do what their rules say, and every other step, a refused
word and an idle step included, keeps the host's frame. -/
theorem step_block_cases (h : step s = .next t) :
    (nextStep s = some (.instr .evtEngine) ∧ s.block.tickPend = true ∧ t.block = engineStep Config.wt s.block) ∨
    (nextStep s = some (.instr .evtReset) ∧ t.block = Block.reset) ∨
    (nextStep s = some (.instr .evtTimer) ∧ t.block = timerEvent s.block) ∨
    s.block.HostFrame t.block := by
  obtain ⟨i, hn, he⟩ | ⟨-, rfl⟩ | ⟨-, rfl⟩ := step_cases h
  · cases ha : i.agent with
    | host =>
      have hf := exec_host_frame ha he
      exact .inr (.inr (.inr hf))
    | timer =>
      obtain rfl := agent_eq_timer_iff.mp ha
      have ht := execEvtTimer_block he
      exact .inr (.inr (.inl ⟨hn, ht⟩))
    | engine =>
      obtain rfl := agent_eq_engine_iff.mp ha
      have ht := execEvtEngine_block he
      exact .inl ⟨hn, ht⟩
    | reset =>
      obtain rfl := agent_eq_reset_iff.mp ha
      have ht := execEvtReset_block he
      exact .inr (.inl ⟨hn, ht⟩)
  · exact .inr (.inr (.inr (hostFrame_raise_badCmd _)))
  · exact .inr (.inr (.inr (.refl _)))

/-- A property of the state that every step keeps holds wherever a run ends. -/
theorem runSteps_invariant (P : State → Prop) (hstep : ∀ s t, P s → step s = .next t → P t) {k : Nat}
    (h : runSteps k s = .next t) (h0 : P s) : P t := by
  induction k generalizing s with
  | zero => cases h; exact h0
  | succ k ih =>
    obtain ⟨u, hu, hk⟩ := runSteps_succ_next h
    exact ih hk (hstep s u h0 hu)

/-! ### The invariants of R36 -/

/-- `STATUS[31:5] = 0` in every block (10_state.md R24). -/
theorem statusWord_reserved (b : Block) : (statusWord b).toNat / 2 ^ 5 = 0 := by
  have := b.tickPend.toNat_le
  have := b.overrun.toNat_le
  have := b.cfgErr.toNat_le
  have := b.badCmd.toNat_le
  have := b.budget.toNat_le
  rw [statusWord_toNat]
  omega

/-- Of the invariants of R36 the ranges hold by the types; what is left to keep is that the outputs are the rescaled
latches and that an unstarted block has neither a tick pending nor an overrun. -/
theorem Block.inv_iff : b.Inv ↔
    b.outA = rescaleA b.csamp ∧ b.outB = rescaleB b.lsamp ∧ (b.run = false → b.tickPend = false ∧ b.overrun = false) := by
  constructor
  · intro h
    exact ⟨BitVec.eq_of_toNat_eq (by rw [h.outA_eq, rescaleA_toNat]),
      BitVec.eq_of_toNat_eq (by rw [h.outB_eq, rescaleB_toNat]), h.unstarted⟩
  · rintro ⟨hA, hB, hU⟩
    exact {
      cshape_le := shapeCode_le _
      lshape_le := shapeCode_le _
      depth_le := Nat.le_of_lt_succ b.depth.isLt
      csamp_le := Nat.le_of_lt_succ b.csamp.isLt
      lsamp_le := Nat.le_of_lt_succ b.lsamp.isLt
      outA_le := Nat.le_of_lt_succ b.outA.isLt
      outB_le := Nat.le_of_lt_succ b.outB.isLt
      outA_eq := by rw [hA, rescaleA_toNat]
      outB_eq := by rw [hB, rescaleB_toNat]
      selPrev_le := Nat.le_of_lt_succ b.selPrev.isLt
      status_reserved := statusWord_reserved b
      unstarted := hU }

theorem Block.inv_reset : Block.reset.Inv :=
  Block.inv_iff.mpr ⟨by decide, by decide, fun _ => ⟨rfl, rfl⟩⟩

theorem Block.Inv.of_hostFrame (hb : b.Inv) (hf : b.HostFrame b') : b'.Inv := by
  obtain ⟨hA, hB, hU⟩ := Block.inv_iff.mp hb
  rw [Block.inv_iff, hf.outA, hf.outB, hf.csamp, hf.lsamp, hf.tickPend, hf.overrun]
  refine ⟨hA, hB, fun hr' => hU (Bool.eq_false_iff.mpr fun hr => ?_)⟩
  simp [hf.run_stays hr] at hr'

/-- A timer event in an unstarted block is no tick (43_modulation_engine.md R131). -/
theorem Block.Inv.timerEvent (hb : b.Inv) : (timerEvent b).Inv := by
  obtain ⟨hA, hB, hU⟩ := Block.inv_iff.mp hb
  refine Block.inv_iff.mpr ⟨by simpa using hA, by simpa using hB, fun hr => ?_⟩
  have hr : b.run = false := by simpa using hr
  simp [hr, hU hr]

/-- The engine step latches the outputs and the samples they are rescaled from together (44_output_stage.md R153). -/
theorem Block.Inv.engineStep (wt : WaveTable) (hb : b.Inv) : (engineStep wt b).Inv :=
  Block.inv_iff.mpr ⟨by simp, by simp, fun hr => ⟨by simp, by simpa using (hb.unstarted (by simpa using hr)).2⟩⟩

/-- Settles O27: by what the step did to the block, an event or a step that keeps the host's frame. -/
theorem everyStepKeepsTheStateInvariant : Obligations.EveryStepKeepsTheStateInvariant := by
  intro s t hs h
  obtain ⟨-, -, ht⟩ | ⟨-, ht⟩ | ⟨-, ht⟩ | hf := step_block_cases h
  · rw [ht]; exact hs.engineStep _
  · rw [ht]; exact Block.inv_reset
  · rw [ht]; exact hs.timerEvent
  · exact hs.of_hostFrame hf

/-- Settles O28. -/
theorem resetMeetsTheStateInvariant : Obligations.ResetMeetsTheStateInvariant := Block.inv_reset

/-- Settles O29, by induction on the length of the run: O28 is its start and O27 its step. -/
theorem reachableStatesMeetTheStateInvariant : Obligations.ReachableStatesMeetTheStateInvariant := by
  intro arrivals k t h
  exact runSteps_invariant (fun s => s.block.Inv) everyStepKeepsTheStateInvariant h resetMeetsTheStateInvariant

/-! ### The reset values, the emitted pairs and the datapath -/

/-- Settles O26. -/
theorem resetStateHoldsTheSpecValues : Obligations.ResetStateHoldsTheSpecValues := rfl

theorem Block.LastPairOnOutputs.of_datapathFrame (hb : b.LastPairOnOutputs) (hf : b.DatapathFrame b') :
    b'.LastPairOnOutputs := by
  intro p hp
  rw [hf.history] at hp
  rw [hf.outA, hf.outB]
  exact hb p hp

/-- The engine step emits the pair that it latches on the outputs (44_output_stage.md R154). -/
theorem lastPairOnOutputs_engineStep (wt : WaveTable) (b : Block) : (engineStep wt b).LastPairOnOutputs := by
  intro p hp
  simpa [eq_comm] using hp

theorem lastPairOnOutputs_reset : Block.reset.LastPairOnOutputs := by
  intro p hp
  cases hp

/-- Settles O31: the engine step emits what it latches, reset empties the history, and no other step touches either. -/
theorem everyStepKeepsTheLastPairOnTheOutputs : Obligations.EveryStepKeepsTheLastPairOnTheOutputs := by
  intro s t hs h
  obtain ⟨-, -, ht⟩ | ⟨-, ht⟩ | ⟨-, ht⟩ | hf := step_block_cases h
  · rw [ht]; exact lastPairOnOutputs_engineStep _ _
  · rw [ht]; exact lastPairOnOutputs_reset
  · rw [ht]; exact hs.of_datapathFrame (datapathFrame_timerEvent _)
  · exact hs.of_datapathFrame hf.toDatapathFrame

/-- A step that is neither the engine step nor the reset event keeps the datapath. -/
theorem step_datapathFrame (h : step s = .next t) (he : nextStep s ≠ some (.instr .evtEngine))
    (hr : nextStep s ≠ some (.instr .evtReset)) : s.block.DatapathFrame t.block := by
  obtain ⟨hn, -⟩ | ⟨hn, -⟩ | ⟨-, ht⟩ | hf := step_block_cases h
  · exact absurd hn he
  · exact absurd hn hr
  · rw [ht]; exact datapathFrame_timerEvent _
  · exact hf.toDatapathFrame

/-- Settles O33. -/
theorem onlyEngineAndResetWriteTheDatapath : Obligations.OnlyEngineAndResetWriteTheDatapath := by
  intro s t h he hr
  have hf := step_datapathFrame h he hr
  exact ⟨hf.cphase, hf.lphase, hf.delta, hf.csamp, hf.lsamp, hf.outA, hf.outB, hf.history, hf.budget⟩

end Sys2Proof.Machine

/-! PROOFS. The memory and the order of steps (20_memory.md): what a step runs, the register space as a memory, the
wavetable ROM, and the ticks a run serves. -/

namespace Sys2Proof.Machine

variable {s t : State}

/-! ### What arrives is what the step runs -/

theorem step_of_arrival {a : Arrival} {rest : List Arrival} {i : Instr} (hs : s.schedule = a :: rest)
    (hd : decodeArrival a = .instr i) : step s = exec i { s with schedule := rest } := by
  obtain ⟨b, p, sched⟩ := s
  cases hs
  exact step_instr (congrArg some hd)

/-- Settles O6: each kind of arrival has its decoder, and a word under reset decodes to the reset event. -/
theorem stepRunsTheDecodedInstruction : Obligations.StepRunsTheDecodedInstruction := by
  intro s w rest
  exact ⟨fun _ ha hd => step_of_arrival ha hd, fun _ ha hd => step_of_arrival ha hd, fun ha => step_of_arrival ha rfl⟩

/-! ### The register space: repeated writes, and reads after writes -/

@[simp] theorem State.finish_finish (s : State) (b b' : Block) (p p' : Pins) :
    (s.finish b p).finish b' p' = s.finish b' p' := rfl

@[simp] theorem raise_raise (f : FaultFlag) (b : Block) : raise f (raise f b) = raise f b := by cases f <;> rfl

@[simp] theorem risingEdge_self (now : BitVec 2) (k : Nat) : risingEdge now now k = false := by simp [risingEdge]

/-- The levels are kept, so the same levels again show no edge (45_host_commands.md R168). -/
theorem selectorEvent_selectorEvent (b : Block) (now : BitVec 2) :
    selectorEvent (selectorEvent b now) now = selectorEvent b now := by
  rw [selectorEvent]
  simp only [selectorEvent_selPrev, risingEdge_self]
  rfl

/-- A write command whose effect is idempotent is idempotent, for a refused write raises a flag that is then set. -/
theorem writeCommand_again {α : Type} {data : Option α} {effect : α → Block → Block}
    (h : writeCommand data effect s = .next t) (heff : ∀ v b, effect v (effect v b) = effect v b) :
    writeCommand data effect t = .next t := by
  cases data with
  | some v => cases h; simp [writeCommand_some, heff]
  | none => cases h; simp [writeCommand_none]

/-- Settles O17: the effect of every write command is idempotent. -/
theorem repeatedWriteEqualsOne : Obligations.RepeatedWriteEqualsOne := by
  intro d s t i hi h
  simp only [List.mem_cons, List.not_mem_nil, or_false] at hi
  obtain rfl | rfl | rfl | rfl | rfl | rfl | rfl := hi <;> simp only [exec] at h ⊢
  · exact writeCommand_again h fun v b => by simp
  · exact writeCommand_again h fun _ _ => rfl
  · exact writeCommand_again h fun _ _ => rfl
  · exact writeCommand_again h fun _ _ => rfl
  · exact writeCommand_again h fun _ _ => rfl
  · exact writeCommand_again h fun _ _ => rfl
  · exact writeCommand_again h fun v b => selectorEvent_selectorEvent b v

/-- A word below `2^n`, cut to `n` bits and zero-extended, is itself (30_encoding.md R74). -/
theorem zext32_ofNat_toNat {n : Nat} {d : Word} (h : d.toNat < 2 ^ n) : zext32 (BitVec.ofNat n d.toNat) = d := by
  simp [zext32_eq, Nat.mod_eq_of_lt h]

theorem depthData_of_le {d : Word} (h : d.toNat ≤ 255) : depthData d = some (BitVec.ofNat 8 d.toNat) := by
  rw [depthData_eq, if_pos h]

theorem selData_of_le {d : Word} (h : d.toNat ≤ 3) : selData d = some (BitVec.ofNat 2 d.toNat) := by
  rw [selData_eq, if_pos h]

/-- The numbers 0 to 4 are shapes (30_encoding.md R79). -/
theorem exists_shapeOfCode {n : Nat} (h : n ≤ 4) : ∃ sh, shapeOfCode n = some sh :=
  Option.isSome_iff_exists.mp (by simpa [shapeOfCode_isSome] using h)

/-- Legal shape data is taken as the shape whose code reads as that data (10_state.md R29, R30). -/
theorem exists_shapeData {d : Word} (h : d.toNat ≤ 4) : ∃ sh, shapeData d = some sh ∧ zext32 (shapeCode sh) = d := by
  obtain ⟨sh, hsh⟩ := exists_shapeOfCode h
  refine ⟨sh, hsh, ?_⟩
  rw [zext32_eq, shapeCode_of_shapeOfCode hsh, BitVec.ofNat_toNat, BitVec.setWidth_eq]

/-- A write with legal data, then a read that finds `d` in what the write left: both complete, and the read answers
`(ok, d)` and changes nothing of the block. -/
theorem writeCommand_then_readCommand {α : Type} {data : Option α} {v : α} {effect : α → Block → Block} {r : Reg}
    {d : Word} (hv : data = some v) (hr : regRead r (effect v s.block) = d) :
    ∃ t u : State, writeCommand data effect s = .next t ∧ readCommand r t = .next u ∧ u.block = t.block ∧
      u.out = answerPins { err := false, data := d } := by
  subst hv hr
  exact ⟨_, _, rfl, rfl, rfl, rfl⟩

/-- Settles O21: each register holds the legal data it takes, and its read zero-extends what it holds. -/
theorem readReturnsWhatWasWritten : Obligations.ReadReturnsWhatWasWritten := by
  intro d s w r hwr hd
  simp only [List.mem_cons, List.not_mem_nil, or_false, Prod.mk.injEq] at hwr
  obtain ⟨rfl, rfl⟩ | ⟨rfl, rfl⟩ | ⟨rfl, rfl⟩ | ⟨rfl, rfl⟩ | ⟨rfl, rfl⟩ | ⟨rfl, rfl⟩ := hwr <;> simp only [exec]
  · exact writeCommand_then_readCommand rfl rfl
  · exact writeCommand_then_readCommand rfl rfl
  · have hd : d.toNat ≤ 255 := of_decide_eq_true hd
    exact writeCommand_then_readCommand (depthData_of_le hd) (zext32_ofNat_toNat (by omega))
  · obtain ⟨sh, hsh, hc⟩ := exists_shapeData (of_decide_eq_true hd)
    exact writeCommand_then_readCommand hsh hc
  · obtain ⟨sh, hsh, hc⟩ := exists_shapeData (of_decide_eq_true hd)
    exact writeCommand_then_readCommand hsh hc
  · have hd : d.toNat ≤ 3 := of_decide_eq_true hd
    exact writeCommand_then_readCommand (selData_of_le hd) (zext32_ofNat_toNat (by omega))

/-! ### The wavetable ROM -/

theorem romAddr_toNat (sh : WaveShape) (i : Index) : (romAddr sh i).toNat = (shapeCode sh).toNat * 1024 + i.toNat := by
  rw [romAddr, BitVec.toNat_append, ← Nat.shiftLeft_add_eq_or_of_lt i.isLt, Nat.shiftLeft_eq]

/-- `MemRead` by numbers: the sample of the shape `a / 1024` and the index `a mod 1024` (20_memory.md R52). -/
theorem memRead_eq (wt : WaveTable) (a : RomAddr) :
    memRead wt a = (shapeOfCode (a.toNat / 1024)).map fun sh => wt sh (BitVec.ofNat 10 (a.toNat % 1024)) := by
  have hshape : (a.extractLsb' 10 3).toNat = a.toNat / 1024 := by
    have := a.isLt
    simp [Nat.shiftRight_eq_div_pow]
    omega
  have hindex : a.extractLsb' 0 10 = BitVec.ofNat 10 (a.toNat % 1024) := by
    apply BitVec.eq_of_toNat_eq
    simp
  rw [memRead, hshape, hindex]

theorem memRead_romAddr (wt : WaveTable) (sh : WaveShape) (i : Index) :
    memRead wt (romAddr sh i) = some (wtRead wt sh i) := by
  have := i.isLt
  have hshape : (romAddr sh i).toNat / 1024 = (shapeCode sh).toNat := by rw [romAddr_toNat]; omega
  have hindex : (romAddr sh i).toNat % 1024 = i.toNat := by rw [romAddr_toNat]; omega
  simp [memRead_eq, hshape, hindex, wtRead]

/-- Settles O42: the address is the number `shape * 1024 + index`, which division by 1024 takes apart. -/
theorem romAddressIsShapeThenIndex : Obligations.RomAddressIsShapeThenIndex := by
  intro wt
  refine ⟨fun sh i => ⟨romAddr_toNat sh i, ?_, memRead_romAddr wt sh i⟩, fun a ha => ?_⟩
  · have := shapeCode_le sh
    have := i.isLt
    rw [romAddr_toNat]
    omega
  · obtain ⟨sh, hsh⟩ := exists_shapeOfCode (n := a.toNat / 1024) (by omega)
    exact ⟨sh, shapeCode_of_shapeOfCode hsh, by rw [memRead_eq, hsh]; rfl⟩

/-- The table enters the Carrier's new phase only through the LFO sample. -/
theorem engineCphase_congr {wt wt' : WaveTable} {b : Block} (hl : engineLsamp wt b = engineLsamp wt' b) :
    engineCphase wt b = engineCphase wt' b := by
  simp only [engineCphase, engineDelta, hl]

/-- The table enters the engine step only through the two samples. -/
theorem engineStep_congr {wt wt' : WaveTable} {b : Block} (hl : engineLsamp wt b = engineLsamp wt' b)
    (hc : engineCsamp wt b = engineCsamp wt' b) : engineStep wt b = engineStep wt' b := by
  simp only [engineStep, engineLatch, engineShifted, engineDelta, engineCphase_congr hl, hl, hc]

/-- Settles O43: the LFO sample is one entry, it fixes the Carrier's phase, and the Carrier sample is the other. -/
theorem engineReadsTwoTableEntries : Obligations.EngineReadsTwoTableEntries := by
  intro wt wt' b hlfo hcar
  have hl : engineLsamp wt b = engineLsamp wt' b := hlfo
  have hc : engineCsamp wt b = engineCsamp wt' b := by
    rw [engineCsamp, engineCsamp, ← engineCphase_congr hl]
    exact hcar
  exact engineStep_congr hl hc

/-! ### Which trace words are the events -/

theorem writeOf_agent {r : Reg} {d : Word} {i : Instr} (h : writeOf r d = .instr i) : i.agent = .host := by
  cases r <;> cases h <;> rfl

theorem readOf_agent (r : Reg) : (readOf r).agent = .host := by cases r <;> rfl

/-- The command port carries the host's steps only (30_encoding.md R75). -/
theorem decodePort_agent {w : CmdWord} {i : Instr} (h : decodePort w = .instr i) : i.agent = .host := by
  unfold decodePort at h
  split at h
  · cases h
  split at h
  · split at h <;> cases h
    rfl
  split at h
  · split at h
    · exact writeOf_agent h
    · cases h
  split at h
  · split at h
    · cases h
    · split at h <;> cases h
      exact readOf_agent _
  · cases h

/-- An event of a trace has one word, its own (30_encoding.md R77). -/
theorem eq_encode_of_decodeTrace {w : CmdWord} {i : Instr} (h : decodeTrace w = .instr i) (hi : i.agent ≠ .host) :
    w = encode i := by
  unfold decodeTrace at h
  split at h
  · split at h
    · next hw => cases h; exact hw
    split at h
    · next hw => cases h; exact hw
    split at h
    · next hw => cases h; exact hw
    · cases h
  · exact absurd (decodePort_agent h) hi

theorem encode_evtTimer : encode .evtTimer = 0xC000000000#40 := rfl

theorem encode_evtEngine : encode .evtEngine = 0xC100000000#40 := rfl

theorem encode_evtReset : encode .evtReset = 0xC200000000#40 := rfl

/-! ### A step takes one arrival -/

theorem respondOk_schedule {b : Block} {v : Word} (h : respondOk s b v = .next t) : t.schedule = s.schedule := by
  cases h; rfl

theorem writeCommand_schedule {α : Type} {data : Option α} {effect : α → Block → Block}
    (h : writeCommand data effect s = .next t) : t.schedule = s.schedule := by
  cases data <;> cases h <;> rfl

theorem silentStep_schedule {b : Block} (h : silentStep s b = .next t) : t.schedule = s.schedule := by
  cases h; rfl

theorem execEvtEngine_schedule (h : execEvtEngine s = .next t) : t.schedule = s.schedule := by
  unfold execEvtEngine at h
  split at h <;> cases h
  rfl

/-- No instruction touches what is still to arrive (10_state.md R37). -/
theorem exec_schedule {i : Instr} (h : exec i s = .next t) : t.schedule = s.schedule := by
  cases i <;> simp only [exec] at h
  case nop | rdCtrl | rdStatus | rdCtw | rdLtw | rdDepth | rdCshape | rdLshape | rdSel | rdCphase | rdLphase | rdDelta
  | rdOuta | rdOutb | rdCsamp | rdLsamp => exact respondOk_schedule h
  case wrCtrl | wrCtw | wrLtw | wrDepth | wrCshape | wrLshape | wrSel => exact writeCommand_schedule h
  case evtTimer | evtReset => exact silentStep_schedule h
  case evtEngine => exact execEvtEngine_schedule h

theorem step_schedule (h : step s = .next t) : t.schedule = s.schedule.tail := by
  obtain ⟨i, -, he⟩ | ⟨-, rfl⟩ | ⟨-, rfl⟩ := step_cases h
  · exact exec_schedule he
  · rfl
  · rfl

/-! ### Runs of a trace -/

@[simp] theorem withTrace_block (s : State) (ws : List CmdWord) : (s.withTrace ws).block = s.block := rfl

theorem nextStep_withTrace_cons (s : State) (w : CmdWord) (ws : List CmdWord) :
    nextStep (s.withTrace (w :: ws)) = some (decodeTrace w) := rfl

theorem step_withTrace_cons {w : CmdWord} {ws : List CmdWord} {i : Instr} (h : decodeTrace w = .instr i) :
    step (s.withTrace (w :: ws)) = exec i (s.withTrace ws) := step_of_arrival rfl h

theorem withTrace_of_schedule {ws : List CmdWord} (h : s.schedule = ws.map Arrival.traceWord) : s.withTrace ws = s := by
  rw [State.withTrace, ← h]

/-- A run of a trace that completes performs its first word and then runs the others. -/
theorem runSteps_withTrace_cons {w : CmdWord} {ws : List CmdWord}
    (h : runSteps (w :: ws).length (s.withTrace (w :: ws)) = .next t) :
    ∃ u, step (s.withTrace (w :: ws)) = .next u ∧ runSteps ws.length (u.withTrace ws) = .next t := by
  obtain ⟨u, hu, hk⟩ := runSteps_succ_next h
  have hsched : u.schedule = ws.map Arrival.traceWord := step_schedule hu
  exact ⟨u, hu, by rwa [withTrace_of_schedule hsched]⟩

/-! ### Ticks and engine steps -/

/-- A step that is none of the three events keeps the host's frame. -/
theorem hostFrame_of_step (h : step s = .next t) (hev : ∀ i, nextStep s = some (.instr i) → i.agent = .host) :
    s.block.HostFrame t.block := by
  obtain ⟨hn, -⟩ | ⟨hn, -⟩ | ⟨hn, -⟩ | hf := step_block_cases h
  · cases hev _ hn
  · cases hev _ hn
  · cases hev _ hn
  · exact hf

variable {u : State} {w : CmdWord} {ws : List CmdWord}

/-- What a trace word does to the block, told by the word: each event by its own word, and every other word keeps the
host's frame. -/
theorem step_withTrace_block (h : step (s.withTrace (w :: ws)) = .next u) :
    (w = encode .evtTimer ∧ u.block = timerEvent s.block) ∨
    (w = encode .evtEngine ∧ s.block.tickPend = true ∧ u.block = engineStep Config.wt s.block) ∨
    (w = encode .evtReset ∧ u.block = Block.reset) ∨
    (w ≠ encode .evtTimer ∧ w ≠ encode .evtEngine ∧ w ≠ encode .evtReset ∧ s.block.HostFrame u.block) := by
  by_cases ht : w = encode .evtTimer
  · rw [step_withTrace_cons (i := .evtTimer) (by rw [ht]; rfl), exec] at h
    exact .inl ⟨ht, execEvtTimer_block (s := s.withTrace ws) h⟩
  by_cases he : w = encode .evtEngine
  · rw [step_withTrace_cons (i := .evtEngine) (by rw [he]; rfl), exec] at h
    exact .inr (.inl ⟨he, execEvtEngine_block (s := s.withTrace ws) h⟩)
  by_cases hr : w = encode .evtReset
  · rw [step_withTrace_cons (i := .evtReset) (by rw [hr]; rfl), exec] at h
    exact .inr (.inr (.inl ⟨hr, execEvtReset_block h⟩))
  refine .inr (.inr (.inr ⟨ht, he, hr, hostFrame_of_step (s := s.withTrace (w :: ws)) h fun i hn => ?_⟩))
  have hd : decodeTrace w = .instr i := by simpa [nextStep_withTrace_cons] using hn
  by_contra hi
  have hw := eq_encode_of_decodeTrace hd hi
  cases i with
  | evtTimer => exact ht hw
  | evtEngine => exact he hw
  | evtReset => exact hr hw
  | _ => exact hi rfl

/-- Only the reset stops a started block (10_state.md R25). -/
theorem run_stays_step (hrun : s.block.run = true) (hw : w ≠ encode .evtReset)
    (h : step (s.withTrace (w :: ws)) = .next u) : u.block.run = true := by
  obtain ⟨-, hu⟩ | ⟨-, -, hu⟩ | ⟨rfl, -⟩ | ⟨-, -, -, hf⟩ := step_withTrace_block h
  · simpa [hu] using hrun
  · simpa [hu] using hrun
  · exact absurd rfl hw
  · exact hf.run_stays hrun

/-- One word of a started block, not the reset and leaving no overrun: no overrun stood before it, and the tick that was
pending and the tick the word brings are the tick it serves and the tick it leaves pending. -/
theorem tick_balance_step (hrun : s.block.run = true) (hw : w ≠ encode .evtReset)
    (h : step (s.withTrace (w :: ws)) = .next u) (hov : u.block.overrun = false) :
    s.block.overrun = false ∧
      s.block.tickPend.toNat + [w].count (encode .evtTimer) = [w].count (encode .evtEngine) + u.block.tickPend.toNat := by
  obtain ⟨rfl, hu⟩ | ⟨rfl, hp, hu⟩ | ⟨rfl, -⟩ | ⟨ht, he, -, hf⟩ := step_withTrace_block h
  · obtain ⟨hov, hp⟩ : s.block.overrun = false ∧ s.block.tickPend = false := by simpa [hu, hrun] using hov
    exact ⟨hov, by simp [hu, hrun, hp, encode_evtTimer, encode_evtEngine]⟩
  · exact ⟨by simpa [hu] using hov, by simp [hu, hp, encode_evtTimer, encode_evtEngine]⟩
  · exact absurd rfl hw
  · exact ⟨by rw [← hf.overrun]; exact hov, by simp [hf.tickPend, ht, he]⟩

/-- The balance of a run, by induction on its trace. The overrun flag is carried backwards: a run that ends without an
overrun had none after any of its words. -/
theorem tick_balance_run (hrun : s.block.run = true) (hw : encode .evtReset ∉ ws)
    (h : runSteps ws.length (s.withTrace ws) = .next t) (hov : t.block.overrun = false) :
    s.block.overrun = false ∧
      s.block.tickPend.toNat + ws.count (encode .evtTimer) = ws.count (encode .evtEngine) + t.block.tickPend.toNat := by
  induction ws generalizing s with
  | nil =>
    cases h
    exact ⟨hov, by simp⟩
  | cons w ws ih =>
    obtain ⟨hne, hws⟩ := not_or.mp (List.mem_cons.not.mp hw)
    obtain ⟨u, hu, hrest⟩ := runSteps_withTrace_cons h
    obtain ⟨hovu, hbal⟩ := ih (run_stays_step hrun (Ne.symm hne) hu) hws hrest
    obtain ⟨hovs, hstep⟩ := tick_balance_step hrun (Ne.symm hne) hu hovu
    refine ⟨hovs, ?_⟩
    rw [← List.singleton_append, List.count_append, List.count_append]
    omega

/-- Settles O54: the balance of each word, summed over the trace. -/
theorem everyTickIsServedByOneEngineStep : Obligations.EveryTickIsServedByOneEngineStep := by
  intro s t ws hrun hw h hov
  rw [← encode_evtTimer, ← encode_evtEngine]
  exact (tick_balance_run hrun (by rwa [encode_evtReset]) h hov).2

end Sys2Proof.Machine

/-! PROOFS. The encoding (30_encoding.md): the cases of the two decoders, the round trips between words and instructions,
and what a trace of words does, well formed or not. -/

namespace Sys2Proof.Machine

open Statements

variable {s : State} {w : CmdWord} {ws : List CmdWord} {r : Reg} {i : Instr} {k' : TickState}

/-! ### The cases of the command decoder (R75) -/

theorem decodePort_of_rsv_ne (hv : rsvField w ≠ 0#2) : decodePort w = .reserved := by
  rw [decodePort, if_pos hv]

theorem decodePort_kind_zero (hv : rsvField w = 0#2) (hk : kindField w = 0#2) :
    decodePort w = if regField w = 0#4 ∧ dataField w = 0#32 then .instr .nop else .reserved := by
  simp [decodePort, hv, hk]

theorem decodePort_write (hv : rsvField w = 0#2) (hk : kindField w = 1#2) (hg : regField w = regNumber r) :
    decodePort w = writeOf r (dataField w) := by
  simp [decodePort, hv, hk, hg]

theorem decodePort_write_unmapped (hv : rsvField w = 0#2) (hk : kindField w = 1#2) (hg : regField w = 15#4) :
    decodePort w = .unmapped := by
  simp [decodePort, hv, hk, hg, regOfNumber]

theorem decodePort_kind_two_data (hv : rsvField w = 0#2) (hk : kindField w = 2#2) (hd : dataField w ≠ 0#32) :
    decodePort w = .reserved := by
  simp [decodePort, hv, hk, hd]

theorem decodePort_read (hv : rsvField w = 0#2) (hk : kindField w = 2#2) (hd : dataField w = 0#32)
    (hg : regField w = regNumber r) : decodePort w = .instr (readOf r) := by
  simp [decodePort, hv, hk, hd, hg]

theorem decodePort_read_unmapped (hv : rsvField w = 0#2) (hk : kindField w = 2#2) (hd : dataField w = 0#32)
    (hg : regField w = 15#4) : decodePort w = .unmapped := by
  simp [decodePort, hv, hk, hd, hg, regOfNumber]

theorem decodePort_kind_three (hv : rsvField w = 0#2) (hk : kindField w = 3#2) : decodePort w = .reserved := by
  simp [decodePort, hv, hk]

/-! ### The cases of the trace decoder (R77) -/

theorem decodeTrace_of_kind_ne_three (hk : kindField w ≠ 3#2) : decodeTrace w = decodePort w := by
  rw [decodeTrace, if_neg hk]

theorem decodeTrace_of_no_event (hk : kindField w = 3#2) (ht : w ≠ 0xC000000000#40) (he : w ≠ 0xC100000000#40)
    (hr : w ≠ 0xC200000000#40) : decodeTrace w = .notTraceWord := by
  rw [decodeTrace, if_pos hk, if_neg ht, if_neg he, if_neg hr]

/-- A host command in a trace is decoded as on the port: with `KIND = 3` there are only the events. -/
theorem decodePort_of_decodeTrace (h : decodeTrace w = .instr i) (hi : i.agent = .host) : decodePort w = .instr i := by
  unfold decodeTrace at h
  split at h
  · split at h
    · cases h; cases hi
    split at h
    · cases h; cases hi
    split at h
    · cases h; cases hi
    · cases h
  · exact h

/-! ### From an instruction to its word and back -/

/-- The decoding of a read word on either decoder (R75). -/
theorem decode_encodeRead (r : Reg) :
    decodePort (encodeRead r) = .instr (readOf r) ∧ decodeTrace (encodeRead r) = .instr (readOf r) := by
  have hport : decodePort (encodeRead r) = .instr (readOf r) := by
    apply decodePort_read <;> simp [encodeRead]
  exact ⟨hport, by rwa [decodeTrace_of_kind_ne_three (by simp [encodeRead])]⟩

/-- Settles O1: a host command's word is a write word, a read word or the word of `NOP`; an event's word is its own. -/
theorem decodeOfEncode : Obligations.DecodeOfEncode := by
  intro i
  cases i
  case nop => exact ⟨rfl, fun _ => rfl⟩
  case wrCtrl d | wrCtw d | wrLtw d | wrDepth d | wrCshape d | wrLshape d | wrSel d =>
    exact ⟨(decode_encodeWrite _ d).2, fun _ => (decode_encodeWrite _ d).1⟩
  case rdCtrl | rdStatus | rdCtw | rdLtw | rdDepth | rdCshape | rdLshape | rdSel | rdCphase | rdLphase | rdDelta | rdOuta
  | rdOutb | rdCsamp | rdLsamp =>
    exact ⟨(decode_encodeRead _).2, fun _ => (decode_encodeRead _).1⟩
  case evtTimer | evtEngine | evtReset => exact ⟨rfl, fun hi => by cases hi⟩

theorem encode_of_writeOf {d : Word} (h : writeOf r d = .instr i) : encode i = encodeWrite r d := by
  cases r <;> cases h <;> rfl

theorem encode_readOf (r : Reg) : encode (readOf r) = encodeRead r := by cases r <;> rfl

/-- A word with known fields is the word packed from them. -/
theorem packWord_eq_of_fields {kd v : BitVec 2} {g : BitVec 4} {d : Word} (hk : kindField w = kd) (hv : rsvField w = v)
    (hg : regField w = g) (hd : dataField w = d) : packWord kd v g d = w := by
  rw [← hk, ← hv, ← hg, ← hd, packWord_of_fields]

/-- The command decoder reads every bit of the word of an instruction, so that it fixes the word. -/
theorem encode_of_decodePort (h : decodePort w = .instr i) : encode i = w := by
  unfold decodePort at h
  split at h
  · cases h
  next hv =>
  have hv : rsvField w = 0#2 := not_not.mp hv
  split at h
  · next hk =>
    split at h
    · next h0 =>
      cases h
      exact packWord_eq_of_fields hk hv h0.1 h0.2
    · cases h
  split at h
  · next hk =>
    split at h
    · next r hr =>
      rw [encode_of_writeOf h]
      exact packWord_eq_of_fields hk hv (regNumber_of_regOfNumber hr).symm rfl
    · cases h
  split at h
  · next hk =>
    split at h
    · cases h
    next hd =>
    split at h
    · next r hr =>
      cases h
      rw [encode_readOf]
      exact packWord_eq_of_fields hk hv (regNumber_of_regOfNumber hr).symm (not_not.mp hd)
    · cases h
  · cases h

/-- Settles O2: an event has its own word, and a host command in a trace is decoded as on the port. -/
theorem encodeOfDecode : Obligations.EncodeOfDecode := by
  intro w i
  refine ⟨fun h => ?_, encode_of_decodePort⟩
  by_cases hi : i.agent = .host
  · exact encode_of_decodePort (decodePort_of_decodeTrace h hi)
  · exact (eq_encode_of_decodeTrace h hi).symm

/-! ### The decoders on the fields as numbers -/

theorem kindNum_eq (w : CmdWord) : kindNum w = (kindField w).toNat := (kindField_toNat w).symm

theorem rsvNum_eq (w : CmdWord) : rsvNum w = (rsvField w).toNat := (rsvField_toNat w).symm

theorem regNum_eq (w : CmdWord) : regNum w = (regField w).toNat := (regField_toNat w).symm

theorem dataNum_eq (w : CmdWord) : dataNum w = (dataField w).toNat := (dataField_toNat w).symm

/-- The registers 1 and 8 to 14 are read only (R75, R185). -/
theorem exists_readOnly {n : Nat} (h : n = 1 ∨ 8 ≤ n ∧ n ≤ 14) (d : Word) :
    ∃ r, (regNumber r).toNat = n ∧ writeOf r d = .writeToReadOnly r := by
  obtain rfl | ⟨hlo, hhi⟩ := h
  · exact ⟨.status, rfl, rfl⟩
  interval_cases n
  · exact ⟨.cphase, rfl, rfl⟩
  · exact ⟨.lphase, rfl, rfl⟩
  · exact ⟨.delta, rfl, rfl⟩
  · exact ⟨.outA, rfl, rfl⟩
  · exact ⟨.outB, rfl, rfl⟩
  · exact ⟨.csamp, rfl, rfl⟩
  · exact ⟨.lsamp, rfl, rfl⟩

/-- A refused word uses up its arrival, raises `BADCMD` and is answered with an error (45_host_commands.md R185 to
R187). -/
theorem step_of_refused_arrival {a : Arrival} {rest : List Arrival} (hs : s.schedule = a :: rest)
    (hd : decodeArrival a = .reserved ∨ decodeArrival a = .unmapped ∨ ∃ r, decodeArrival a = .writeToReadOnly r) :
    step s = .next { block := { s.block with badCmd := true }, out := errPins, schedule := rest } := by
  obtain ⟨b, p, sched⟩ := s
  cases hs
  exact step_refused
    (hd.imp (congrArg some) (Or.imp (congrArg some) fun ⟨r, hr⟩ => ⟨r, congrArg some hr⟩))

/-- Settles O3: each case of the list is a case of the decoder, the fields being equal when their numbers are. -/
theorem portDecoderFollowsTheCaseList : Obligations.PortDecoderFollowsTheCaseList := by
  refine ⟨fun s w rest ha hd => step_of_refused_arrival ha hd, fun w => ?_⟩
  simp only [kindNum_eq, rsvNum_eq, regNum_eq, dataNum_eq, BitVec.ofNat_toNat, BitVec.setWidth_eq]
  refine ⟨fun hv => decodePort_of_rsv_ne (ne_of_apply_ne BitVec.toNat hv), fun hv => ?_⟩
  have hv : rsvField w = 0#2 := BitVec.eq_of_toNat_eq hv
  refine ⟨fun hk h0 => ?_, fun hk h0 => ?_, fun hk => ?_, fun hk hd => ?_, fun hk hd => ?_, fun hk => ?_⟩
  · rw [decodePort_kind_zero hv (BitVec.eq_of_toNat_eq hk),
      if_pos ⟨BitVec.eq_of_toNat_eq h0.1, BitVec.eq_of_toNat_eq h0.2⟩]
  · rw [decodePort_kind_zero hv (BitVec.eq_of_toNat_eq hk),
      if_neg fun h => h0 ⟨congrArg BitVec.toNat h.1, congrArg BitVec.toNat h.2⟩]
  · have hk : kindField w = 1#2 := BitVec.eq_of_toNat_eq hk
    have hwr (r : Reg) (hg : (regField w).toNat = (regNumber r).toNat) : decodePort w = writeOf r (dataField w) :=
      decodePort_write hv hk (BitVec.eq_of_toNat_eq hg)
    refine ⟨hwr .ctrl, hwr .ctw, hwr .ltw, hwr .depth, hwr .cshape, hwr .lshape, hwr .sel, fun hg => ?_, fun hg => ?_⟩
    · obtain ⟨r, hr, hro⟩ := exists_readOnly hg (dataField w)
      exact ⟨r, hr, (hwr r hr.symm).trans hro⟩
    · exact decodePort_write_unmapped hv hk (BitVec.eq_of_toNat_eq hg)
  · exact decodePort_kind_two_data hv (BitVec.eq_of_toNat_eq hk) (ne_of_apply_ne BitVec.toNat hd)
  · have hk : kindField w = 2#2 := BitVec.eq_of_toNat_eq hk
    have hd : dataField w = 0#32 := BitVec.eq_of_toNat_eq hd
    have hrd (r : Reg) (hg : (regField w).toNat = (regNumber r).toNat) : decodePort w = .instr (readOf r) :=
      decodePort_read hv hk hd (BitVec.eq_of_toNat_eq hg)
    exact ⟨hrd .ctrl, hrd .status, hrd .ctw, hrd .ltw, hrd .depth, hrd .cshape, hrd .lshape, hrd .sel, hrd .cphase,
      hrd .lphase, hrd .delta, hrd .outA, hrd .outB, hrd .csamp, hrd .lsamp,
      fun hg => decodePort_read_unmapped hv hk hd (BitVec.eq_of_toNat_eq hg)⟩
  · exact decodePort_kind_three hv (BitVec.eq_of_toNat_eq hk)

/-- Settles O4. -/
theorem traceDecoderAddsTheThreeEvents : Obligations.TraceDecoderAddsTheThreeEvents := by
  refine ⟨rfl, rfl, rfl, fun w => ?_⟩
  rw [kindNum_eq]
  exact ⟨fun hk => decodeTrace_of_no_event (BitVec.eq_of_toNat_eq hk),
    fun hk => decodeTrace_of_kind_ne_three (ne_of_apply_ne BitVec.toNat hk)⟩

/-- Settles O5. -/
theorem specWordsDecode : Obligations.SpecWordsDecode := by
  unfold Obligations.SpecWordsDecode
  decide

/-! ### A trace of words, well formed or not (R78) -/

/-- A word that is no trace word stops the machine (log 5). -/
theorem step_notTraceWord (h : nextStep s = some .notTraceWord) : step s = .fault .illFormedTraceWord := by
  simp [step, fetch_eq, h]

/-- Settles O8: such a word is no trace word. -/
theorem nonTraceWordStops : Obligations.NonTraceWordStops := by
  intro s w rest ha hk ht he hr
  have hd : decodeTrace w = .notTraceWord := by
    rw [kindNum_eq] at hk
    exact decodeTrace_of_no_event (BitVec.eq_of_toNat_eq hk) ht he hr
  obtain ⟨b, p, sched⟩ := s
  cases ha
  exact step_notTraceWord (congrArg some hd)

@[simp] theorem raise_tickState (f : FaultFlag) (b : Block) : (raise f b).tickState = b.tickState := by
  simp [Block.tickState]

/-- A write command whose effect leaves the tick state completes and leaves it, accepted or refused. -/
theorem writeCommand_tickState {α : Type} (data : Option α) {effect : α → Block → Block} (s : State)
    (heff : ∀ v b, (effect v b).tickState = b.tickState) :
    ∃ t, writeCommand data effect s = .next t ∧ t.block.tickState = s.block.tickState := by
  cases data with
  | some v => exact ⟨_, writeCommand_some v effect s, heff v s.block⟩
  | none => exact ⟨_, writeCommand_none effect s, raise_tickState _ _⟩

/-- `WR.CTRL` completes; it starts the block with 1 and leaves the tick state with any other data (45_host_commands.md
R162). -/
theorem execWrCtrl_tickState (d : Word) (s : State) :
    ∃ t, execWrCtrl d s = .next t ∧
      t.block.tickState = { s.block.tickState with run := s.block.run || decide (d.toNat = 1) } := by
  rw [execWrCtrl, ctrlData_eq]
  split
  · exact ⟨_, writeCommand_some _ _ s, rfl⟩
  · next hd =>
    have hne : d.toNat ≠ 1 := by omega
    exact ⟨_, writeCommand_none _ s, by simp [Block.tickState, hne]⟩

theorem execEvtTimer_tickState (s : State) :
    ∃ t, execEvtTimer s = .next t ∧
      t.block.tickState = { s.block.tickState with pend := s.block.tickPend || s.block.run } :=
  ⟨_, rfl, by simp [Block.tickState]⟩

theorem execEvtEngine_tickState (hp : s.block.tickPend = true) :
    ∃ t, execEvtEngine s = .next t ∧ t.block.tickState = { s.block.tickState with pend := false } := by
  rw [execEvtEngine, hp]
  exact ⟨_, rfl, by simp [Block.tickState]⟩

/-- An instruction that is enabled completes, and its effect on the tick state is what `TickState.after` says. -/
theorem exec_of_after_some (h : s.block.tickState.after i = some k') :
    ∃ t, exec i s = .next t ∧ t.block.tickState = k' := by
  cases i <;> simp only [TickState.after, Option.some.injEq] at h <;> simp only [exec]
  case wrCtrl d => rw [← h]; exact execWrCtrl_tickState d s
  case wrCtw | wrLtw | wrDepth | wrCshape | wrLshape | wrSel =>
    rw [← h]; exact writeCommand_tickState _ s fun _ _ => rfl
  case nop | rdCtrl | rdStatus | rdCtw | rdLtw | rdDepth | rdCshape | rdLshape | rdSel | rdCphase | rdLphase | rdDelta
  | rdOuta | rdOutb | rdCsamp | rdLsamp => exact ⟨_, rfl, h⟩
  case evtTimer => rw [← h]; exact execEvtTimer_tickState s
  case evtEngine =>
    split at h
    · next hp => cases h; exact execEvtEngine_tickState hp
    · cases h
  case evtReset => exact ⟨_, rfl, h⟩

/-- Only the engine step can be not enabled, and then it stops the machine (log 4). -/
theorem exec_of_after_none (h : s.block.tickState.after i = none) : exec i s = .fault .engineNotEnabled := by
  cases i <;> simp only [TickState.after, reduceCtorEq] at h
  case evtEngine =>
    split at h
    · cases h
    · next hp =>
      have hp : s.block.tickPend = false := Bool.eq_false_iff.mpr hp
      rw [exec, execEvtEngine, hp]

/-- The effect of one trace word on the tick state, or none where the word has no meaning there: a refused command
changes nothing of it, and a word that is no trace word never has a meaning (R78). -/
def tickAfterWord (k : TickState) (w : CmdWord) : Option TickState :=
  match decodeTrace w with
  | .instr i => k.after i
  | .reserved | .writeToReadOnly _ | .unmapped => some k
  | .notTraceWord => none

/-- A trace is well formed when its first word has a meaning and the others are well formed after it. -/
theorem traceWellFormed_cons (k : TickState) (w : CmdWord) (ws : List CmdWord) :
    traceWellFormed k (w :: ws) = (tickAfterWord k w).any fun k' => traceWellFormed k' ws := by
  rw [traceWellFormed, tickAfterWord]
  cases decodeTrace w with
  | instr i => simp only; cases k.after i <;> rfl
  | reserved | writeToReadOnly | unmapped | notTraceWord => rfl

/-- A word that has a meaning is performed, with the effect on the tick state that it has there. -/
theorem step_of_tickAfterWord_some (h : tickAfterWord s.block.tickState w = some k') :
    ∃ u, step (s.withTrace (w :: ws)) = .next u ∧ u.block.tickState = k' := by
  have refused (hd : decodeTrace w = .reserved ∨ decodeTrace w = .unmapped ∨ ∃ r, decodeTrace w = .writeToReadOnly r)
      (hk : s.block.tickState = k') : ∃ u, step (s.withTrace (w :: ws)) = .next u ∧ u.block.tickState = k' :=
    ⟨_, step_of_refused_arrival (a := .traceWord w) rfl hd, hk⟩
  unfold tickAfterWord at h
  split at h
  · next i hd =>
    rw [step_withTrace_cons hd]
    exact exec_of_after_some (s := s.withTrace ws) h
  · next hd => exact refused (.inl hd) (Option.some.inj h)
  · next r hd => exact refused (.inr (.inr ⟨r, hd⟩)) (Option.some.inj h)
  · next hd => exact refused (.inr (.inl hd)) (Option.some.inj h)
  · cases h

/-- A word that has no meaning where it stands stops the machine. -/
theorem step_of_tickAfterWord_none (h : tickAfterWord s.block.tickState w = none) :
    ∃ f, step (s.withTrace (w :: ws)) = .fault f := by
  unfold tickAfterWord at h
  split at h
  · next i hd =>
    rw [step_withTrace_cons hd]
    exact ⟨_, exec_of_after_none (s := s.withTrace ws) h⟩
  · cases h
  · cases h
  · cases h
  · next hd => exact ⟨_, step_notTraceWord (congrArg some hd)⟩

/-- After its first word, the run of a trace is the run of the others. -/
theorem runSteps_withTrace_of_step {u : State} (hu : step (s.withTrace (w :: ws)) = .next u) :
    runSteps (w :: ws).length (s.withTrace (w :: ws)) = runSteps ws.length (u.withTrace ws) := by
  rw [List.length_cons, runSteps_succ_of_next hu, withTrace_of_schedule (step_schedule hu)]

/-- Settles O51, by induction on the trace: its first word is performed and leaves the others well formed. -/
theorem wellFormedTraceRunsToItsEnd : Obligations.WellFormedTraceRunsToItsEnd := by
  intro s ws h
  induction ws generalizing s with
  | nil => exact ⟨_, rfl, rfl⟩
  | cons w ws ih =>
    rw [traceWellFormed_cons, Option.any_eq_true] at h
    obtain ⟨k', hk, hws⟩ := h
    obtain ⟨u, hu, rfl⟩ := step_of_tickAfterWord_some hk
    rw [runSteps_withTrace_of_step hu]
    exact ih u hws

/-- Settles O52, by induction on the trace: its first word stops the machine or leaves the others not well formed. -/
theorem illFormedTraceStops : Obligations.IllFormedTraceStops := by
  intro s ws h
  induction ws generalizing s with
  | nil => cases h
  | cons w ws ih =>
    rw [traceWellFormed_cons] at h
    cases hk : tickAfterWord s.block.tickState w with
    | none =>
      obtain ⟨f, hf⟩ := step_of_tickAfterWord_none hk
      exact ⟨f, runSteps_succ_of_fault hf⟩
    | some k' =>
      obtain ⟨u, hu, rfl⟩ := step_of_tickAfterWord_some hk
      rw [runSteps_withTrace_of_step hu]
      rw [hk] at h
      exact ih u h

/-! ### The shapes' numbers (R79) -/

/-- A 3-bit number is a shape's exactly when it is at most 4. -/
theorem exists_shapeCode_iff (n : BitVec 3) : (∃ sh, shapeCode sh = n) ↔ n.toNat ≤ 4 := by
  constructor
  · rintro ⟨sh, rfl⟩
    exact shapeCode_le sh
  · intro hn
    obtain ⟨sh, hsh⟩ := exists_shapeOfCode hn
    exact ⟨sh, BitVec.eq_of_toNat_eq (shapeCode_of_shapeOfCode hsh)⟩

/-- Settles O15. -/
theorem shapesAreNumberedInOrder : Obligations.ShapesAreNumberedInOrder := by
  refine ⟨rfl, rfl, rfl, rfl, rfl, exists_shapeCode_iff, fun sh i => ?_, fun sh => ⟨shapeCode_shapeStep sh, ?_⟩⟩
  · have := i.isLt
    rw [romAddr_toNat]
    omega
  · cases sh <;> rfl

end Sys2Proof.Machine

/-! PROOFS. The reference contents of the wavetable bank (40_wavetable_bank.md R105 to R108): each sample as the number of
its formula, and the sums of the tables. Triangle and Square are summed by pairing each index with the one half a turn
later, SawUp by the sum of the indices, and SawDown by its sample and SawUp's adding up to 4095. -/

namespace Sys2Proof.Machine

/-! ### The samples as numbers -/

/-- `t(i)` with its cases decided on the integers. -/
theorem refTriangleOffset_eq (n : Nat) :
    refTriangleOffset n = if (n : Int) < 256 then (n : Int) else if (n : Int) < 768 then 512 - n else n - 1024 := by
  unfold refTriangleOffset
  split_ifs <;> omega

theorem refTriangleOffset_bounds {n : Nat} (hn : n < 1024) :
    -256 ≤ refTriangleOffset n ∧ refTriangleOffset n ≤ 256 := by
  unfold refTriangleOffset
  split_ifs <;> omega

theorem refTriangleOffset_nonneg {n : Nat} (hn : n < 512) : 0 ≤ refTriangleOffset n := by
  unfold refTriangleOffset
  split_ifs <;> omega

/-- Half a turn later the Triangle is as far on the other side of its centre. -/
theorem refTriangleOffset_halfTurn {n : Nat} (hn : n < 512) : refTriangleOffset (512 + n) = -refTriangleOffset n := by
  unfold refTriangleOffset
  split_ifs <;> omega

/-- The Triangle meets its clip at index 256 only (R105). -/
theorem refTriangleOffset_eq_256_iff {n : Nat} (hn : n < 1024) : refTriangleOffset n = 256 ↔ n = 256 := by
  unfold refTriangleOffset
  split_ifs <;> omega

theorem refWt_triangle_toNat (i : Index) :
    ((refWt .triangle i).toNat : Int) = min 4095 (2048 + 8 * refTriangleOffset i.toNat) := by
  have := refTriangleOffset_bounds i.isLt
  rw [refWt, BitVec.toNat_ofInt]
  omega

theorem refWt_square_toNat (i : Index) : (refWt .square i).toNat = if i.toNat < 512 then 4095 else 0 := by
  rw [refWt]
  split_ifs <;> rfl

theorem refWt_sawDown_toNat (i : Index) : (refWt .sawDown i).toNat = 4095 - 4 * i.toNat := by
  rw [refWt, BitVec.toNat_ofNat]
  omega

theorem refWt_sawUp_toNat (i : Index) : (refWt .sawUp i).toNat = 4 * i.toNat := by
  have := i.isLt
  rw [refWt, BitVec.toNat_ofNat]
  omega

/-! ### The sums of the tables -/

/-- A table is summed over the numbers of its indices. -/
theorem tableSum_eq_sum_range (wt : WaveTable) (sh : WaveShape) :
    tableSum wt sh = ∑ n ∈ Finset.range 1024, (wt sh (BitVec.ofNat 10 n)).toNat := by
  rw [tableSum, ← List.sum_toFinset _ List.nodup_range, List.toFinset_range, tableLen]

/-- A table is summed over half a turn, each index together with the one half a turn later. -/
theorem tableSum_eq_sum_halfTurn (wt : WaveTable) (sh : WaveShape) :
    tableSum wt sh = ∑ n ∈ Finset.range 512,
      ((wt sh (BitVec.ofNat 10 n)).toNat + (wt sh (BitVec.ofNat 10 (512 + n))).toNat) := by
  rw [tableSum_eq_sum_range, Finset.sum_add_distrib]
  exact Finset.sum_range_add (fun n => (wt sh (BitVec.ofNat 10 n)).toNat) 512 512

/-- Half a turn apart the Triangle's samples add up to 4096, or to one less where one of them is clipped. -/
theorem refWt_triangle_halfTurn {n : Nat} (hn : n < 512) :
    (refWt .triangle (BitVec.ofNat 10 n)).toNat + (refWt .triangle (BitVec.ofNat 10 (512 + n))).toNat
      + (if n = 256 then 1 else 0) = 4096 := by
  have h₀ := refWt_triangle_toNat (BitVec.ofNat 10 n)
  have h₁ := refWt_triangle_toNat (BitVec.ofNat 10 (512 + n))
  rw [BitVec.toNat_ofNat, Nat.mod_eq_of_lt (by omega)] at h₀ h₁
  rw [refTriangleOffset_halfTurn hn] at h₁
  have hnonneg := refTriangleOffset_nonneg hn
  have hbounds := refTriangleOffset_bounds (n := n) (by omega)
  have hpeak := refTriangleOffset_eq_256_iff (n := n) (by omega)
  split_ifs <;> omega

theorem tableSum_refWt_triangle : tableSum refWt .triangle = 2097151 := by
  have hclip : ∑ n ∈ Finset.range 512, (if n = 256 then 1 else 0) = 1 := by
    rw [Finset.sum_ite_eq', if_pos (Finset.mem_range.mpr (by norm_num))]
  have hpairs := Finset.sum_eq_card_nsmul fun n hn => refWt_triangle_halfTurn (Finset.mem_range.mp hn)
  rw [Finset.sum_add_distrib, ← tableSum_eq_sum_halfTurn, hclip, Finset.card_range] at hpairs
  exact Nat.eq_sub_of_add_eq hpairs

theorem refWt_square_halfTurn {n : Nat} (hn : n < 512) :
    (refWt .square (BitVec.ofNat 10 n)).toNat + (refWt .square (BitVec.ofNat 10 (512 + n))).toNat = 4095 := by
  rw [refWt_square_toNat, refWt_square_toNat, BitVec.toNat_ofNat, BitVec.toNat_ofNat, if_pos (by omega),
    if_neg (by omega)]

theorem tableSum_refWt_square : tableSum refWt .square = 2096640 := by
  rw [tableSum_eq_sum_halfTurn, Finset.sum_eq_card_nsmul fun n hn => refWt_square_halfTurn (Finset.mem_range.mp hn),
    Finset.card_range]
  rfl

theorem tableSum_refWt_sawUp : tableSum refWt .sawUp = 2095104 := by
  have hsample : ∀ n ∈ Finset.range 1024, (refWt .sawUp (BitVec.ofNat 10 n)).toNat = 4 * n := by
    intro n hn
    rw [refWt_sawUp_toNat, BitVec.toNat_ofNat, Nat.mod_eq_of_lt (Finset.mem_range.mp hn)]
  rw [tableSum_eq_sum_range, Finset.sum_congr rfl hsample, ← Finset.mul_sum, Finset.sum_range_id]
  rfl

/-- The two saws add up to 4095 at every index. -/
theorem refWt_sawDown_add_sawUp (i : Index) : (refWt .sawDown i).toNat + (refWt .sawUp i).toNat = 4095 := by
  have := i.isLt
  rw [refWt_sawDown_toNat, refWt_sawUp_toNat]
  omega

theorem tableSum_refWt_sawDown : tableSum refWt .sawDown = 2098176 := by
  have hsaws : tableSum refWt .sawDown + tableSum refWt .sawUp = 1024 * 4095 := by
    rw [tableSum_eq_sum_range, tableSum_eq_sum_range, ← Finset.sum_add_distrib,
      Finset.sum_eq_card_nsmul fun n _ => refWt_sawDown_add_sawUp _, Finset.card_range, smul_eq_mul]
  rw [tableSum_refWt_sawUp] at hsaws
  exact Nat.eq_sub_of_add_eq hsaws

/-- Settles O60. -/
theorem referenceTablesFollowTheirFormulas : Obligations.ReferenceTablesFollowTheirFormulas := by
  refine ⟨fun i => ⟨?_, refWt_square_toNat i, ?_, refWt_sawUp_toNat i⟩,
    tableSum_refWt_triangle, tableSum_refWt_square, tableSum_refWt_sawDown, tableSum_refWt_sawUp⟩
  · rw [refWt_triangle_toNat, refTriangleOffset_eq]
  · have := i.isLt
    rw [refWt_sawDown_toNat]
    omega

end Sys2Proof.Machine

/-! PROOFS. The oscillator (41_oscillator.md R110 to R114): `Advance` is addition on 32-bit words, so advances add up, and
`Index` is the word's top ten bits. -/

namespace Sys2Proof.Machine

/-- `Advance` adds the increment's 32-bit image (41_oscillator.md R110). -/
theorem advance_eq_add (acc : Word) (inc : Int) : advance acc inc = acc + BitVec.ofInt 32 inc := by
  rw [advance, BitVec.ofInt_add, BitVec.ofInt_natCast, BitVec.ofNat_toNat, BitVec.setWidth_eq]

@[simp] theorem advance_zero (acc : Word) : advance acc 0 = acc := by
  simp [advance_eq_add]

theorem advance_advance (acc : Word) (m n : Int) : advance (advance acc m) n = advance acc (m + n) := by
  simp only [advance_eq_add, BitVec.ofInt_add, BitVec.add_assoc]

theorem advance_emod (acc : Word) (inc : Int) : advance acc (inc % 2 ^ 32) = advance acc inc := by
  rw [advance_eq_add, advance_eq_add, ofInt_emod]

/-- Before any reduction modulo 2^32: `k` advances are one advance by the product. -/
theorem iterate_advance (acc : Word) (inc : Int) (k : Nat) :
    (fun x => advance x inc)^[k] acc = advance acc (inc * k) := by
  induction k with
  | zero => simp
  | succ k ih => rw [Function.iterate_succ_apply', ih, advance_advance, Nat.cast_succ, mul_add_one]

theorem index_eq_ofNat (acc : Word) : index acc = BitVec.ofNat 10 (acc.toNat / 2 ^ 22) := by
  rw [← index_toNat, BitVec.ofNat_toNat, BitVec.setWidth_eq]

/-- Settles O40: by induction the advances are one by `T * k`, and `Advance` does not see the reduction modulo 2^32. -/
theorem repeatedAdvanceIsOneAdvance : Obligations.RepeatedAdvanceIsOneAdvance := by
  intro a T k
  have hiter : (fun x => advance x (T.toNat : Int))^[k] a = advance a ((T.toNat * k : Nat) : Int) := by
    rw [iterate_advance, Nat.cast_mul]
  constructor
  · rw [hiter, ← advance_emod, Int.natCast_emod, Nat.cast_pow, Nat.cast_ofNat]
  · rw [hiter, advance_natCast_toNat]

/-- Settles O39. -/
theorem advanceAddsModulo : Obligations.AdvanceAddsModulo :=
  fun acc inc => ⟨advance_toNat acc inc, (advance_emod acc inc).symm⟩

/-- Settles O41: the bound is the index's ten bits, and the table is read at the index by `Sample`'s definition. -/
theorem indexIsTheTopTenBits : Obligations.IndexIsTheTopTenBits := by
  intro acc wt sh
  refine ⟨index_toNat acc, (index acc).isLt, ?_⟩
  rw [sampleAt, wtRead, index_eq_ofNat]

end Sys2Proof.Machine

/-! PROOFS. The frequency mapper (42_frequency_mapper.md R120 to R122, R126). `TuningWord` gives the word whose number is
the rounded quotient, and nothing else; the quotient and `S / F` multiply to `2 ^ 32`, so the distance from one wrap is
the error of a product of two rounded factors. -/

namespace Sys2Proof.Machine

/-- The model's `Rat.floor` is the floor Mathlib's lemmas speak of. -/
theorem roundHalfUp_eq_floor (x : ℚ) : roundHalfUp x = ⌊x + 1 / 2⌋ := rfl

/-- The rounding of R121 is Mathlib's `round`. -/
theorem roundHalfUp_eq_round (x : ℚ) : roundHalfUp x = round x := by rw [roundHalfUp_eq_floor, round_eq]

theorem roundHalfUp_lt {x : ℚ} {n : Int} : roundHalfUp x < n ↔ x + 1 / 2 < n := by
  rw [roundHalfUp_eq_floor, Int.floor_lt]

theorem roundHalfUp_nonneg {x : ℚ} (hx : 0 ≤ x) : 0 ≤ roundHalfUp x := by
  rw [roundHalfUp_eq_floor]
  positivity

theorem tuningQuotient_nonneg {F S : ℚ} (hF : 0 ≤ F) (hS : 0 < S) : 0 ≤ tuningQuotient F S := by
  unfold tuningQuotient; positivity

/-- `TuningWord` in full (R120 to R122): it gives the one word whose number is the rounded quotient, and refuses where no
word has that number. -/
theorem tuningWord_eq_some_iff {F S : ℚ} (hF : 0 ≤ F) (hS : 0 < S) {T : Word} :
    tuningWord F S = some T ↔ (T.toNat : Int) = roundHalfUp (tuningQuotient F S) := by
  have hpos := roundHalfUp_nonneg (tuningQuotient_nonneg hF hS)
  rw [tuningWord, Option.ite_none_right_eq_some, Option.some_inj]
  constructor
  · rintro ⟨⟨-, -, hlt⟩, rfl⟩
    rw [BitVec.toNat_ofInt]
    omega
  · intro hT
    have := T.isLt
    rw [← hT, BitVec.ofInt_natCast, BitVec.ofNat_toNat, BitVec.setWidth_eq]
    exact ⟨⟨hF, hS, by omega⟩, rfl⟩

/-- Where the quotient plus one half is below `2 ^ 32`, the mapper gives a word (R122). -/
theorem exists_tuningWord {F S : ℚ} (hF : 0 ≤ F) (hS : 0 < S) (h : tuningQuotient F S + 1 / 2 < 2 ^ 32) :
    ∃ T : Word, tuningWord F S = some T :=
  ⟨_, if_pos ⟨hF, hS, roundHalfUp_lt.2 (by exact_mod_cast h)⟩⟩

/-- Elsewhere it refuses (R122). -/
theorem tuningWord_eq_none {F S : ℚ} (h : 2 ^ 32 ≤ tuningQuotient F S + 1 / 2) : tuningWord F S = none :=
  if_neg fun ⟨_, _, hlt⟩ => (roundHalfUp_lt.1 hlt).not_ge (by exact_mod_cast h)

/-- The frequencies up to `S * (1 - 2^-32)` are in the mapper's domain (R122): their quotients are at most `2 ^ 32 - 1`. -/
theorem tuningQuotient_add_half_lt {F S : ℚ} (hS : 0 < S) (h : F ≤ S * (1 - 1 / 2 ^ 32)) :
    tuningQuotient F S + 1 / 2 < 2 ^ 32 := by
  have hq : tuningQuotient F S ≤ 2 ^ 32 - 1 := (div_le_iff₀ hS).2 (by linarith)
  linarith

/-- Settles O58: `1000` is within `S * (1 - 2^-32)` for `S` of 1001 or more. -/
theorem tuningWordRoundsTheExactQuotient : Obligations.TuningWordRoundsTheExactQuotient := by
  intro F S hF hS
  refine ⟨fun h => ?_, tuningWord_eq_none, tuningQuotient_add_half_lt hS, fun h => ?_⟩
  · obtain ⟨T, hT⟩ := exists_tuningWord hF hS h
    exact ⟨T, hT, ((tuningWord_eq_some_iff hF hS).1 hT).trans (roundHalfUp_eq_floor _)⟩
  · have hbound : min F 1000 ≤ S * (1 - 1 / 2 ^ 32) := (min_le_right F 1000).trans (by linarith)
    exact exists_tuningWord (le_min hF (by norm_num)) hS (tuningQuotient_add_half_lt hS hbound)

theorem abs_roundHalfUp_sub_le (x : ℚ) : |(roundHalfUp x : ℚ) - x| ≤ 1 / 2 := by
  rw [roundHalfUp_eq_round, abs_sub_comm]
  exact abs_sub_round x

theorem abs_mul_roundHalfUp_sub_le {x : ℚ} (hx : 0 ≤ x) (y : ℚ) : |x * (roundHalfUp y - y)| ≤ x * (1 / 2) := by
  rw [abs_mul, abs_of_nonneg hx]
  exact mul_le_mul_of_nonneg_left (abs_roundHalfUp_sub_le y) hx

/-- The error of a product of two rounded factors (R126's derivation): each factor is off by at most one half. -/
theorem abs_roundHalfUp_mul_sub_le {x y : ℚ} (hx : 0 ≤ x) (hy : 0 ≤ y) :
    |(roundHalfUp x : ℚ) * roundHalfUp y - x * y| ≤ x / 2 + y / 2 + 1 / 4 := by
  have hsplit : (roundHalfUp x : ℚ) * roundHalfUp y - x * y =
      x * (roundHalfUp y - y) + y * (roundHalfUp x - x) + (roundHalfUp x - x) * (roundHalfUp y - y) := by ring
  have hboth : |(roundHalfUp x - x) * (roundHalfUp y - y)| ≤ 1 / 2 * (1 / 2) := by
    rw [abs_mul]
    gcongr <;> exact abs_roundHalfUp_sub_le _
  calc |(roundHalfUp x : ℚ) * roundHalfUp y - x * y|
      ≤ x * (1 / 2) + y * (1 / 2) + 1 / 2 * (1 / 2) := by
        rw [hsplit]
        exact (abs_add_three _ _ _).trans
          (add_le_add_three (abs_mul_roundHalfUp_sub_le hx y) (abs_mul_roundHalfUp_sub_le hy x) hboth)
    _ = x / 2 + y / 2 + 1 / 4 := by ring

/-- The true bound of R126, on the model's `returnError`. -/
theorem abs_returnError_le {F S : ℚ} {T : Word} (hF : 0 < F) (hS : 0 < S) (hT : tuningWord F S = some T) :
    |(returnError T F S : ℚ)| ≤ S / (2 * F) + F * 2 ^ 31 / S + 1 / 4 := by
  have hprod : S / F * tuningQuotient F S = 2 ^ 32 := by
    unfold tuningQuotient; field_simp
  have herr : (returnError T F S : ℚ) =
      roundHalfUp (S / F) * roundHalfUp (tuningQuotient F S) - S / F * tuningQuotient F S := by
    rw [hprod, returnError, returnTicks, (tuningWord_eq_some_iff hF.le hS).1 hT]
    push_cast
    rfl
  calc |(returnError T F S : ℚ)|
      ≤ S / F / 2 + tuningQuotient F S / 2 + 1 / 4 :=
        herr ▸ abs_roundHalfUp_mul_sub_le (by positivity) (tuningQuotient_nonneg hF.le hS)
    _ = S / (2 * F) + F * 2 ^ 31 / S + 1 / 4 := by
        unfold tuningQuotient; ring

/-- R126's sufficient condition: at `F` up to `S / 1024` the quotient's half is at most half an index step. -/
theorem abs_returnError_le_indexStep {F S : ℚ} {T : Word} (hF : 0 < F) (hS : 0 < S) (hT : tuningWord F S = some T)
    (hsmall : F ≤ S / 1024) (hlarge : S / (2 * F) + 1 / 4 ≤ 2 ^ 21) : |returnError T F S| ≤ indexStep := by
  have hq : F * 2 ^ 31 / S ≤ 2 ^ 21 := (div_le_iff₀ hS).2 (by linarith)
  have herr : |(returnError T F S : ℚ)| ≤ 2 ^ 22 := by linarith [abs_returnError_le hF hS hT]
  exact_mod_cast herr

/-- Settles O59: its `k` and `e` are the model's `returnTicks` and `returnError`. -/
theorem frequencyRoundTripWithinTheBound : Obligations.FrequencyRoundTripWithinTheBound :=
  fun _ _ _ hF hS hT => ⟨abs_returnError_le hF hS hT, abs_returnError_le_indexStep hF hS hT⟩

end Sys2Proof.Machine

/-! PROOFS. The modulation engine (43_modulation_engine.md R131 to R141). The shifted product `q` lies between its values at
the extreme samples, `floor(-2139095040 * CTW / 2^31)` and `floor(2138050560 * CTW / 2^31)`; every bound on it is a linear
fact about these two. The engine step is then read sub-step by sub-step on the integers. -/

namespace Sys2Proof.Machine

open Sys2Proof.Statements

variable {s : State}

/-! ### The shifted product and its range (R134 to R136) -/

theorem floorShift_eq_asr (x : Int) (k : Nat) : floorShift x k = asr x k :=
  Int.fdiv_eq_ediv_of_nonneg x (by positivity)

theorem shiftedProduct_eq_floorShift (ls : Sample) (depth : Depth) (ctw : Word) :
    shiftedProduct ls depth ctw =
      floorShift (((ls.toNat : Int) - 2048) * ((depth.toNat : Int) * 4096) * (ctw.toNat : Int)) 31 :=
  (floorShift_eq_asr _ _).symm

/-- The scaling of the depth by `2^12` cancels against the shift by 31 (R137). -/
theorem shiftedProduct_eq_floorShift_unscaled (ls : Sample) (depth : Depth) (ctw : Word) :
    shiftedProduct ls depth ctw =
      floorShift (((ls.toNat : Int) - 2048) * (depth.toNat : Int) * (ctw.toNat : Int)) 19 := by
  have hscale : product64 ls depth ctw =
      2 ^ 12 * (((ls.toNat : Int) - 2048) * (depth.toNat : Int) * (ctw.toNat : Int)) := by
    simp only [product64, product32, signedSample, depthScale, center, depthShift]
    ring
  have hshift : (2 : Int) ^ 31 = 2 ^ 12 * 2 ^ 19 := by norm_num
  rw [shiftedProduct, floorShift_eq_asr, asr, asr, deltaShift, hscale, hshift,
    Int.mul_ediv_mul_of_pos _ _ (by norm_num)]

theorem signedSample_bounds (ls : Sample) : -2048 ≤ signedSample ls ∧ signedSample ls ≤ 2047 := by
  have := ls.isLt
  simp only [signedSample, center]
  omega

theorem depthScale_bounds (depth : Depth) : 0 ≤ depthScale depth ∧ depthScale depth ≤ 1044480 := by
  have := depth.isLt
  simp only [depthScale, depthShift]
  omega

/-- A factor in `[lo, hi]` about 0 times one in `[0, m]`: the extremes are at the second factor's `m`. -/
theorem mul_bounds {lo hi m x y : Int} (hlo : lo ≤ 0) (hhi : 0 ≤ hi) (hx : lo ≤ x ∧ x ≤ hi) (hy : 0 ≤ y ∧ y ≤ m) :
    lo * m ≤ x * y ∧ x * y ≤ hi * m :=
  ⟨(mul_le_mul_of_nonpos_left hy.2 hlo).trans (mul_le_mul_of_nonneg_right hx.1 hy.1),
    (mul_le_mul_of_nonneg_right hx.2 hy.1).trans (mul_le_mul_of_nonneg_left hy.2 hhi)⟩

theorem product32_bounds (ls : Sample) (depth : Depth) :
    -2139095040 ≤ product32 ls depth ∧ product32 ls depth ≤ 2138050560 :=
  mul_bounds (lo := -2048) (hi := 2047) (by norm_num) (by norm_num) (signedSample_bounds ls) (depthScale_bounds depth)

/-- The range of the 64-bit product for a given tuning word. -/
theorem product64_bounds (ls : Sample) (depth : Depth) (ctw : Word) :
    -2139095040 * (ctw.toNat : Int) ≤ product64 ls depth ctw ∧
      product64 ls depth ctw ≤ 2138050560 * (ctw.toNat : Int) :=
  mul_bounds (by norm_num) (by norm_num) (product32_bounds ls depth) ⟨Int.natCast_nonneg _, le_refl _⟩

/-- The range of `q` for a given tuning word, with its extremes at full depth and the extreme samples. -/
theorem shiftedProduct_bounds (ls : Sample) (depth : Depth) (ctw : Word) :
    -2139095040 * (ctw.toNat : Int) / 2 ^ 31 ≤ shiftedProduct ls depth ctw ∧
      shiftedProduct ls depth ctw ≤ 2138050560 * (ctw.toNat : Int) / 2 ^ 31 := by
  obtain ⟨hlo, hhi⟩ := product64_bounds ls depth ctw
  exact ⟨Int.ediv_le_ediv (by norm_num) hlo, Int.ediv_le_ediv (by norm_num) hhi⟩

/-- The lower extreme of `q` is attained. -/
theorem shiftedProduct_zero_fullDepth (ctw : Word) :
    shiftedProduct 0 255 ctw = -2139095040 * (ctw.toNat : Int) / 2 ^ 31 := by
  have hp : product32 0 255 = -2139095040 := by decide
  rw [shiftedProduct, product64, hp]
  rfl

/-- `q` never exceeds the tuning word in size (R140), so the Carrier never runs backwards. -/
theorem abs_shiftedProduct_le (ls : Sample) (depth : Depth) (ctw : Word) :
    |shiftedProduct ls depth ctw| ≤ (ctw.toNat : Int) := by
  have := shiftedProduct_bounds ls depth ctw
  rw [abs_le]
  omega

theorem shiftedProduct_eq_zero {ls : Sample} {depth : Depth} {ctw : Word} (h : depth = 0 ∨ ls = 2048 ∨ ctw = 0) :
    shiftedProduct ls depth ctw = 0 := by
  obtain rfl | rfl | rfl := h <;> simp [shiftedProduct_eq_floorShift, floorShift]

/-- Settles O46: the range of each product follows from the ranges of its factors. -/
theorem productsStayInTheirWidths : Obligations.ProductsStayInTheirWidths := by
  intro ls depth ctw
  obtain ⟨hl₁, hl₂⟩ := signedSample_bounds ls
  obtain ⟨hd₁, hd₂⟩ := depthScale_bounds depth
  obtain ⟨hp₁, hp₂⟩ := product32_bounds ls depth
  obtain ⟨hP₁, hP₂⟩ := product64_bounds ls depth ctw
  obtain ⟨hq₁, hq₂⟩ := shiftedProduct_bounds ls depth ctw
  have hctw := ctw.isLt
  exact ⟨rfl, hl₁, hl₂, rfl, hd₁, hd₂, rfl, hp₁, hp₂, rfl, by omega, by omega, (floorShift_eq_asr _ _).symm, by omega,
    by omega⟩

/-- Settles O47: for a given tuning word the range of `q` is linear in it and its extremes are attained, so each threshold
is where an extreme crosses a power of two. -/
theorem bitBudgetHoldsExactlyUpToTheBound : Obligations.BitBudgetHoldsExactlyUpToTheBound := by
  refine ⟨fun ls depth ctw => ?_, by decide, fun ctw => ⟨fun h => ?_, fun hctw ls depth => ?_⟩, by decide, by decide,
    fun ls depth ctw hctw => ?_, fun ls depth ctw hctw => ?_, fun ls => ?_, by decide, by decide⟩
  · have hP := product64_bounds ls depth ctw
    have hq := shiftedProduct_bounds ls depth ctw
    have hctw := ctw.isLt
    exact ⟨signedSample_bounds ls, depthScale_bounds depth, product32_bounds ls depth, by omega, by omega⟩
  · have hmin := (h 0 255).1
    rw [shiftedProduct_zero_fullDepth] at hmin
    omega
  · have hq := shiftedProduct_bounds ls depth ctw
    omega
  · have hq := shiftedProduct_bounds ls depth ctw
    omega
  · have hq := shiftedProduct_bounds ls depth ctw
    omega
  · exact shiftedProduct_bounds ls 255 89478485

/-! ### The delta: `q` wrapped to 32 bits (R137, R138) -/

theorem wrapS32_eq_ofInt_wrapSigned (q : Int) : wrapS32 q = BitVec.ofInt 32 (wrapSigned q) := by
  rw [wrapSigned, ← wrapS32_toInt, BitVec.ofInt_toInt]

theorem modDelta_toInt (ls : Sample) (depth : Depth) (ctw : Word) :
    (modDelta ls depth ctw).toInt = wrapSigned (shiftedProduct ls depth ctw) :=
  wrapS32_toInt _

/-- Wrapping does not change a number modulo 2^32 (00_scope.md R9). -/
theorem add_wrapSigned_emod (x q : Int) : (x + wrapSigned q) % 2 ^ 32 = (x + q) % 2 ^ 32 := by
  unfold wrapSigned
  omega

/-- Wrapping changes exactly the numbers outside the signed 32-bit range (R138). -/
theorem wrapSigned_ne_iff (q : Int) : wrapSigned q ≠ q ↔ q < -2 ^ 31 ∨ q > 2 ^ 31 - 1 := by
  unfold wrapSigned
  omega

theorem budgetViolated_eq (q : Int) : budgetViolated q = decide (q ≠ wrapSigned q) := by
  rw [budgetViolated, wrapS32_toInt, ← wrapSigned]
  exact decide_eq_decide.mpr ne_comm

theorem modDelta_eq_zero {ls : Sample} {depth : Depth} {ctw : Word} (h : depth = 0 ∨ ls = 2048 ∨ ctw = 0) :
    modDelta ls depth ctw = 0 := by
  rw [modDelta, shiftedProduct_eq_zero h]
  rfl

/-- Settles O45. -/
theorem modDeltaIsTheWrappedFloor : Obligations.ModDeltaIsTheWrappedFloor := by
  intro ls depth ctw
  refine ⟨?_, ?_, modDelta_eq_zero⟩
  · rw [modDelta_toInt, shiftedProduct_eq_floorShift]
  · rw [modDelta_toInt, shiftedProduct_eq_floorShift_unscaled]

/-! ### The engine step (R132, R133) -/

/-- The engine step is total on the states with a tick pending (R133). -/
theorem exec_evtEngine_of_pending (hp : s.block.tickPend = true) :
    exec .evtEngine s = .next (s.finish (engineStep Config.wt s.block) enginePins) := by
  rw [exec, execEvtEngine, hp]

/-- Settles O24. -/
theorem engineStepNeedsAPendingTick : Obligations.EngineStepNeedsAPendingTick := by
  intro s hp
  have hnone : s.block.tickState.after .evtEngine = none := by simp [TickState.after, Block.tickState, hp]
  exact exec_of_after_none hnone

/-- The engine step as one update of the block. -/
theorem engineStep_eq (wt : WaveTable) (b : Block) :
    engineStep wt b =
      { b with
        lphase := engineLphase b
        cphase := engineCphase wt b
        lsamp := engineLsamp wt b
        csamp := engineCsamp wt b
        delta := engineDelta wt b
        outA := rescaleA (engineCsamp wt b)
        outB := rescaleB (engineLsamp wt b)
        history := b.history ++ [(rescaleA (engineCsamp wt b), rescaleB (engineLsamp wt b))]
        budget := b.budget || budgetViolated (engineShifted wt b)
        tickPend := false } := rfl

theorem sampleAt_eq (wt : WaveTable) (acc : Word) (sh : WaveShape) :
    sampleAt wt acc sh = wt sh (BitVec.ofNat 10 (acc.toNat / 2 ^ 22)) := by
  rw [sampleAt, wtRead, index_eq_ofNat]

theorem rescaleA_eq_ofNat (x : Sample) : rescaleA x = BitVec.ofNat 8 (x.toNat / 2 ^ 4) := by
  rw [← rescaleA_toNat, BitVec.ofNat_toNat, BitVec.setWidth_eq]

theorem rescaleB_eq_ofNat (x : Sample) : rescaleB x = BitVec.ofNat 7 (x.toNat / 2 ^ 5) := by
  rw [← rescaleB_toNat, BitVec.ofNat_toNat, BitVec.setWidth_eq]

theorem engineLphase_toNat (b : Block) : (engineLphase b).toNat = (b.lphase.toNat + b.ltw.toNat) % 2 ^ 32 :=
  advance_natCast_toNat _ _

theorem engineLphase_eq_ofNat (b : Block) :
    engineLphase b = BitVec.ofNat 32 ((b.lphase.toNat + b.ltw.toNat) % 2 ^ 32) := by
  rw [← engineLphase_toNat, BitVec.ofNat_toNat, BitVec.setWidth_eq]

theorem engineDelta_eq (wt : WaveTable) (b : Block) : engineDelta wt b = wrapS32 (engineShifted wt b) := rfl

theorem engineDelta_toInt (wt : WaveTable) (b : Block) : (engineDelta wt b).toInt = wrapSigned (engineShifted wt b) :=
  modDelta_toInt _ _ _

theorem engineCphase_toNat (wt : WaveTable) (b : Block) :
    ((engineCphase wt b).toNat : Int) =
      ((b.cphase.toNat : Int) + (b.ctw.toNat : Int) + (engineDelta wt b).toInt) % 2 ^ 32 := by
  rw [engineCphase, advance_toNat, add_assoc]

theorem engineCphase_eq_ofInt (wt : WaveTable) (b : Block) :
    engineCphase wt b =
      BitVec.ofInt 32
        (((b.cphase.toNat : Int) + (b.ctw.toNat : Int) + wrapSigned (engineShifted wt b)) % 2 ^ 32) := by
  rw [← engineDelta_toInt, ← engineCphase_toNat, BitVec.ofInt_natCast, BitVec.ofNat_toNat, BitVec.setWidth_eq]

/-- A delta of 0 leaves the Carrier an unmodulated oscillator (R141). -/
theorem engineCphase_of_delta_zero {wt : WaveTable} {b : Block} (h : engineDelta wt b = 0) :
    engineCphase wt b = advance b.cphase (b.ctw.toNat : Int) := by
  simp [engineCphase, h]

/-- Settles O23, sub-step by sub-step: each value the statement writes on integers is the one the engine computes. -/
theorem engineStepComputesTheSampleTick : Obligations.EngineStepComputesTheSampleTick := by
  refine ⟨by decide, fun s hp => ?_⟩
  intro b lphase1 ls q delta cphase1 cs outA outB
  have hlphase : engineLphase b = lphase1 := engineLphase_eq_ofNat b
  have hls : engineLsamp Config.wt b = ls := by rw [engineLsamp, hlphase, sampleAt_eq]
  have hq : engineShifted Config.wt b = q := by rw [engineShifted, hls, shiftedProduct_eq_floorShift]
  have hdelta : engineDelta Config.wt b = BitVec.ofInt 32 delta := by
    rw [engineDelta_eq, hq, wrapS32_eq_ofInt_wrapSigned]
  have hcphase : engineCphase Config.wt b = cphase1 := by rw [engineCphase_eq_ofInt, hq]
  have hcs : engineCsamp Config.wt b = cs := by rw [engineCsamp, hcphase, sampleAt_eq]
  rw [exec_evtEngine_of_pending hp, engineStep_eq, hlphase, hls, hq, hdelta, hcphase, hcs, budgetViolated_eq,
    rescaleA_eq_ofNat, rescaleB_eq_ofNat]
  rfl

/-- Settles O48. -/
theorem budgetIsRaisedExactlyOutsideTheRange : Obligations.BudgetIsRaisedExactlyOutsideTheRange := by
  intro s hp
  refine ⟨_, exec_evtEngine_of_pending hp, ?_, wrapSigned_ne_iff _, engineDelta_toInt _ _⟩
  rw [State.finish_block, engineStep_budget, Bool.or_eq_true, budgetViolated_iff]

/-- Settles O49: the phase is taken modulo 2^32, where the wrapped and the unwrapped delta agree. -/
theorem carrierPhaseIsUndisturbedByWrapping : Obligations.CarrierPhaseIsUndisturbedByWrapping := by
  intro wt b
  refine ⟨engineCphase_toNat wt b, ?_, fun ls depth ctw => ?_⟩
  · rw [engineStep_cphase, engineCphase_toNat, engineDelta_toInt, add_wrapSigned_emod, engineShifted]
  · obtain ⟨hlo, hhi⟩ := abs_le.mp (abs_shiftedProduct_le ls depth ctw)
    omega

/-- Settles O50: at depth 0 the shifted product is 0, so nothing is added to the Carrier's advance and no budget is
violated. -/
theorem zeroDepthLeavesTheCarrierUnmodulated : Obligations.ZeroDepthLeavesTheCarrierUnmodulated := by
  refine ⟨fun ls ctw => modDelta_eq_zero (.inl rfl), fun s hp hd => ?_⟩
  have hq : engineShifted Config.wt s.block = 0 := shiftedProduct_eq_zero (.inl hd)
  have hdelta : engineDelta Config.wt s.block = 0 := modDelta_eq_zero (.inl hd)
  have hbudget : budgetViolated 0 = false := by decide
  refine ⟨_, exec_evtEngine_of_pending hp, hdelta, ?_, ?_, engineLphase_toNat _, rescaleB_toNat _⟩
  · simp [hq, hbudget]
  · rw [State.finish_block, engineStep_cphase, engineCphase_of_delta_zero hdelta, advance_natCast_toNat]

/-! ### The timer event (R131) -/

theorem timerEvent_of_not_run {b : Block} (hr : b.run = false) : timerEvent b = b := by simp [timerEvent, hr]

theorem timerEvent_of_pending {b : Block} (hr : b.run = true) (hp : b.tickPend = true) :
    timerEvent b = raise .overrun b := by simp [timerEvent, hr, hp]

theorem timerEvent_of_not_pending {b : Block} (hr : b.run = true) (hp : b.tickPend = false) :
    timerEvent b = { b with tickPend := true } := by simp [timerEvent, hr, hp]

theorem exec_evtTimer (s : State) : exec .evtTimer s = .next (s.finish (timerEvent s.block) Pins.quiet) := rfl

/-- Settles O22. -/
theorem timerEventSetsPendingOrOverrun : Obligations.TimerEventSetsPendingOrOverrun := by
  refine ⟨by decide, fun s => ⟨fun hr => ?_, fun hr hp => ?_, fun hr hp => ?_⟩⟩
  · rw [exec_evtTimer, timerEvent_of_not_run hr]; rfl
  · rw [exec_evtTimer, timerEvent_of_pending hr hp]; rfl
  · rw [exec_evtTimer, timerEvent_of_not_pending hr hp]; rfl

/-! ### Where nothing more arrives (R132, log 3), and fairness (log 26) -/

theorem step_of_empty_pending (hs : s.schedule = []) (hp : s.block.tickPend = true) : step s = exec .evtEngine s := by
  simp [step, fetch, hs, hp]

theorem step_of_empty_not_pending (hs : s.schedule = []) (hp : s.block.tickPend = false) : step s = execIdle s := by
  simp [step, fetch, hs, hp]

/-- Settles O9. -/
theorem emptyScheduleServesThePendingTick : Obligations.EmptyScheduleServesThePendingTick :=
  fun _ hs => ⟨step_of_empty_pending hs, step_of_empty_not_pending hs⟩

/-- Settles O55, by induction on what is still to arrive: each step takes one arrival, and where none is left a pending
tick is served by the next step. -/
theorem everyExecutionIsFair : Obligations.EveryExecutionIsFair := by
  intro e he n
  induction hs : (e n).schedule generalizing n with
  | nil =>
    cases hp : (e n).block.tickPend with
    | false => exact ⟨n, le_refl n, hp⟩
    | true =>
      have hstep : step (e n) = exec .evtEngine (e n) := step_of_empty_pending hs hp
      rw [he n, exec_evtEngine_of_pending hp] at hstep
      refine ⟨n + 1, Nat.le_succ n, ?_⟩
      rw [Host.Outcome.next.inj hstep, State.finish_block, engineStep_tickPend]
  | cons a rest ih =>
    have hrest : (e (n + 1)).schedule = rest := by rw [step_schedule (he n), hs, List.tail_cons]
    obtain ⟨m, hm, hpend⟩ := ih (n + 1) hrest
    exact ⟨m, Nat.le_of_succ_le hm, hpend⟩

end Sys2Proof.Machine

/-! PROOFS. The output stage (44_output_stage.md R150, R151, R154). The engine step is the one step that pulses; a run of a
trace without a reset therefore emits one pair for each engine word. -/

namespace Sys2Proof.Machine

variable {s t u : State} {w : CmdWord} {ws : List CmdWord}

/-- Settles O44. -/
theorem rescalersDropTheLowBits : Obligations.RescalersDropTheLowBits :=
  fun x => ⟨rescaleA_toNat x, rescaleB_toNat x⟩

/-! ### Which steps pulse (R154; 43_modulation_engine.md R145) -/

/-- Neither the strobe of the output converters nor the acknowledge of the timer is pulsed. -/
structure Pins.NoPulse (p : Pins) : Prop where
  dacStrobe : p.dacStrobe = false := by rfl
  tickAck : p.tickAck = false := by rfl

theorem noPulse_quiet : Pins.quiet.NoPulse := {}

theorem noPulse_answerPins (r : Response) : (answerPins r).NoPulse := {}

theorem respondOk_noPulse {b : Block} {v : Word} (h : respondOk s b v = .next t) : t.out.NoPulse := by
  cases h; exact noPulse_answerPins _

theorem writeCommand_noPulse {α : Type} {data : Option α} {effect : α → Block → Block}
    (h : writeCommand data effect s = .next t) : t.out.NoPulse := by
  cases data <;> cases h <;> exact noPulse_answerPins _

theorem silentStep_noPulse {b : Block} (h : silentStep s b = .next t) : t.out.NoPulse := by
  cases h; exact noPulse_quiet

/-- Host commands only answer, and the timer and reset events show nothing (30_encoding.md R76; 43 R145; 70 R230). -/
theorem exec_noPulse {i : Instr} (hi : i ≠ .evtEngine) (h : exec i s = .next t) : t.out.NoPulse := by
  cases i <;> simp only [exec] at h
  case nop | rdCtrl | rdStatus | rdCtw | rdLtw | rdDepth | rdCshape | rdLshape | rdSel | rdCphase | rdLphase | rdDelta
  | rdOuta | rdOutb | rdCsamp | rdLsamp => exact respondOk_noPulse h
  case wrCtrl | wrCtw | wrLtw | wrDepth | wrCshape | wrLshape | wrSel => exact writeCommand_noPulse h
  case evtTimer | evtReset => exact silentStep_noPulse h
  case evtEngine => exact absurd rfl hi

/-- No step but the engine step pulses, a refused word and an idle step included. -/
theorem step_noPulse (h : step s = .next t) (he : nextStep s ≠ some (.instr .evtEngine)) : t.out.NoPulse := by
  obtain ⟨i, hn, hx⟩ | ⟨-, rfl⟩ | ⟨-, rfl⟩ := step_cases h
  · refine exec_noPulse ?_ hx
    rintro rfl
    exact he hn
  · exact noPulse_answerPins _
  · exact noPulse_quiet

/-- The state a completed engine step leaves, whether its word arrived or nothing did. -/
theorem step_evtEngine_next (h : step s = .next t) (hn : nextStep s = some (.instr .evtEngine)) :
    t = (fetched s).finish (engineStep Config.wt s.block) enginePins := by
  rw [step_instr hn] at h
  obtain ⟨hp, -⟩ := execEvtEngine_block h
  rw [exec_evtEngine_of_pending hp] at h
  exact (Host.Outcome.next.inj h).symm

theorem step_evtReset_block (h : step s = .next t) (hn : nextStep s = some (.instr .evtReset)) :
    t.block = Block.reset := by
  rw [step_instr hn] at h
  exact execEvtReset_block h

/-- The pair an engine step emits is the one it leaves on the outputs (R153, R154). -/
theorem engineStep_history_eq_outputs (wt : WaveTable) (b : Block) :
    (engineStep wt b).history = b.history ++ [((engineStep wt b).outA, (engineStep wt b).outB)] := rfl

/-- Settles O38: the engine step by the state it leaves, every other step by its pins and by the frame of the datapath. -/
theorem onlyEngineStepsEmitAndEachEmitsOnePair : Obligations.OnlyEngineStepsEmitAndEachEmitsOnePair := by
  intro s t h
  refine ⟨fun hn => ?engine, fun he => ?pins, fun hn => ?reset, fun he hr => (step_datapathFrame h he hr).history⟩
  case engine =>
    rw [step_evtEngine_next h hn]
    exact ⟨engineStep_history_eq_outputs _ _, rfl, rfl, engineStep_tickPend _ _⟩
  case pins =>
    obtain ⟨hstrobe, hack⟩ := step_noPulse h he
    exact ⟨hstrobe, hack⟩
  case reset => rw [step_evtReset_block h hn]; rfl

/-! ### The pairs of a run (R154) -/

/-- One trace word, not the reset, emits one pair if it is the engine's and none otherwise. -/
theorem history_length_step (hw : w ≠ encode .evtReset) (h : step (s.withTrace (w :: ws)) = .next u) :
    u.block.history.length = s.block.history.length + [w].count (encode .evtEngine) := by
  obtain ⟨rfl, hu⟩ | ⟨rfl, -, hu⟩ | ⟨rfl, -⟩ | ⟨-, he, -, hf⟩ := step_withTrace_block h
  · simp [hu, encode_evtTimer, encode_evtEngine]
  · simp [hu]
  · exact absurd rfl hw
  · simp [hf.history, he]

/-- The pairs of a run, by induction on its trace. -/
theorem history_length_run (hw : encode .evtReset ∉ ws) (h : runSteps ws.length (s.withTrace ws) = .next t) :
    t.block.history.length = s.block.history.length + ws.count (encode .evtEngine) := by
  induction ws generalizing s with
  | nil => cases h; simp
  | cons w ws ih =>
    obtain ⟨hne, hws⟩ := not_or.mp (List.mem_cons.not.mp hw)
    obtain ⟨u, hu, hrest⟩ := runSteps_withTrace_cons h
    calc t.block.history.length
        = u.block.history.length + ws.count (encode .evtEngine) := ih hws hrest
      _ = s.block.history.length + [w].count (encode .evtEngine) + ws.count (encode .evtEngine) := by
        rw [history_length_step (Ne.symm hne) hu]
      _ = s.block.history.length + (w :: ws).count (encode .evtEngine) := by
        rw [add_assoc, ← List.count_append, List.singleton_append]

/-- Settles O53: the pairs of each word, summed over the trace. -/
theorem historyCountsEngineSteps : Obligations.HistoryCountsEngineSteps := by
  intro s t ws hw h
  rw [← encode_evtEngine]
  exact history_length_run (by rwa [encode_evtReset]) h

end Sys2Proof.Machine

/-! PROOFS. The host commands (45_host_commands.md R160 to R187). Every command is a write or a read of one register or
`NOP`: its first byte is the register's number, and what it does is the one equation of an accepted write, of a refused
write or of a read. -/

namespace Sys2Proof.Machine

open Sys2Proof.Statements

variable {s : State} {w : CmdWord} {i : Instr} {α : Type} {data : Option α} {effect : α → Block → Block}

/-! ### The words of the commands (30_encoding.md R71) -/

theorem wordOf_write (r : Reg) (d : Word) : wordOf (0x40 + (regNumber r).toNat) d.toNat = encodeWrite r d := by
  apply BitVec.eq_of_toNat_eq
  have := d.isLt
  have := (regNumber r).isLt
  simp only [wordOf, encodeWrite, packWord_toNat, BitVec.toNat_ofNat]
  omega

theorem wordOf_read (r : Reg) : wordOf (0x80 + (regNumber r).toNat) 0 = encodeRead r := by
  apply BitVec.eq_of_toNat_eq
  have := (regNumber r).isLt
  simp only [wordOf, encodeRead, packWord_toNat, BitVec.toNat_ofNat]
  omega

theorem decodePort_wordOf_write (r : Reg) (d : Word) :
    decodePort (wordOf (0x40 + (regNumber r).toNat) d.toNat) = writeOf r d := by
  rw [wordOf_write]
  exact (decode_encodeWrite r d).1

theorem decodePort_wordOf_read (r : Reg) : decodePort (wordOf (0x80 + (regNumber r).toNat) 0) = .instr (readOf r) := by
  rw [wordOf_read]
  exact (decode_encodeRead r).1

/-! ### What a write does: it is stored or refused whole (60_exceptions.md R204) -/

theorem exec_wrCtrl (d : Word) (s : State) :
    exec (.wrCtrl d) s = writeCommand (ctrlData d) (fun v b => { b with run := b.run || v }) s := rfl

theorem exec_wrCtw (d : Word) (s : State) :
    exec (.wrCtw d) s = writeCommand (some d) (fun v b => { b with ctw := v }) s := rfl

theorem exec_wrLtw (d : Word) (s : State) :
    exec (.wrLtw d) s = writeCommand (some d) (fun v b => { b with ltw := v }) s := rfl

theorem exec_wrDepth (d : Word) (s : State) :
    exec (.wrDepth d) s = writeCommand (depthData d) (fun v b => { b with depth := v }) s := rfl

theorem exec_wrCshape (d : Word) (s : State) :
    exec (.wrCshape d) s = writeCommand (shapeData d) (fun v b => { b with cshape := v }) s := rfl

theorem exec_wrLshape (d : Word) (s : State) :
    exec (.wrLshape d) s = writeCommand (shapeData d) (fun v b => { b with lshape := v }) s := rfl

theorem exec_wrSel (d : Word) (s : State) :
    exec (.wrSel d) s = writeCommand (selData d) (fun v b => selectorEvent b v) s := rfl

theorem exec_write_stored (h : exec i s = writeCommand data effect s) {v : α} (hd : data = some v) :
    exec i s = .next { s with block := effect v s.block, out := okPins 0 } := by
  rw [h, hd]; rfl

theorem exec_write_refused (h : exec i s = writeCommand data effect s) (hd : data = none) :
    exec i s = .next { s with block := { s.block with cfgErr := true }, out := errPins } := by
  rw [h, hd]; rfl

theorem ctrlData_of_gt {d : Word} (h : d.toNat > 1) : ctrlData d = none := if_neg (by omega)

theorem depthData_of_gt {d : Word} (h : d.toNat > 255) : depthData d = none := if_neg (by omega)

theorem selData_of_gt {d : Word} (h : d.toNat > 3) : selData d = none := if_neg (by omega)

theorem shapeData_isSome (d : Word) : (shapeData d).isSome = decide (d.toNat ≤ 4) := shapeOfCode_isSome d.toNat

theorem shapeData_of_gt {d : Word} (h : d.toNat > 4) : shapeData d = none := by
  rw [← Option.not_isSome_iff_eq_none, shapeData_isSome, decide_eq_true_eq]
  omega

/-- Settles O11: `RUN` takes the written bit by disjunction, so that writing 0 leaves it. -/
theorem wrCtrlStartsTheBlock : Obligations.WrCtrlStartsTheBlock := by
  intro d s
  refine ⟨decodePort_wordOf_write .ctrl d, fun h => exec_write_refused (exec_wrCtrl d s) (ctrlData_of_gt h), ?one, ?zero⟩
  case one =>
    rintro rfl
    have hstored := exec_write_stored (v := true) (exec_wrCtrl 1 s) rfl
    rwa [Bool.or_true] at hstored
  case zero =>
    rintro rfl
    have hstored := exec_write_stored (v := false) (exec_wrCtrl 0 s) rfl
    rwa [Bool.or_false] at hstored

/-- Settles O12. -/
theorem wrTuningWordsStoreTheWord : Obligations.WrTuningWordsStoreTheWord :=
  fun d s => ⟨decodePort_wordOf_write .ctw d, decodePort_wordOf_write .ltw d,
    exec_write_stored (exec_wrCtw d s) rfl, exec_write_stored (exec_wrLtw d s) rfl⟩

/-- Settles O13. -/
theorem wrDepthStoresOrRefuses : Obligations.WrDepthStoresOrRefuses :=
  fun d s => ⟨decodePort_wordOf_write .depth d, fun h => exec_write_refused (exec_wrDepth d s) (depthData_of_gt h),
    fun h => exec_write_stored (exec_wrDepth d s) (depthData_of_le h)⟩

/-- Settles O14. -/
theorem wrShapesStoreOrRefuse : Obligations.WrShapesStoreOrRefuse := by
  intro d s
  refine ⟨decodePort_wordOf_write .cshape d, decodePort_wordOf_write .lshape d, fun h => ?refused, fun h => ?stored⟩
  case refused =>
    have hd := shapeData_of_gt h
    exact ⟨exec_write_refused (exec_wrCshape d s) hd, exec_write_refused (exec_wrLshape d s) hd⟩
  case stored =>
    obtain ⟨sh, hsh⟩ := exists_shapeOfCode h
    exact ⟨sh, shapeCode_of_shapeOfCode hsh, exec_write_stored (exec_wrCshape d s) hsh,
      exec_write_stored (exec_wrLshape d s) hsh⟩

/-! ### The selector (R168) -/

/-- The Carrier's level rises where bit 0 goes from 0 to 1. -/
theorem risingEdge_zero_iff (before now : BitVec 2) :
    risingEdge before now 0 = true ↔ before.toNat % 2 = 0 ∧ now.toNat % 2 = 1 := by
  revert before now
  decide

/-- The LFO's level rises where bit 1 goes from 0 to 1. -/
theorem risingEdge_one_iff (before now : BitVec 2) :
    risingEdge before now 1 = true ↔ before.toNat / 2 = 0 ∧ now.toNat / 2 = 1 := by
  revert before now
  decide

/-- A shape that steps under a condition, as a number (R169). -/
theorem shapeCode_ite_shapeStep (p : Prop) [Decidable p] (sh : WaveShape) :
    (shapeCode (if p then shapeStep sh else sh)).toNat =
      if p then ((shapeCode sh).toNat + 1) % 5 else (shapeCode sh).toNat := by
  split
  · exact shapeCode_shapeStep sh
  · rfl

/-- Settles O16: the shapes are those of the selector event, and legal data is the number of its two levels. -/
theorem wrSelStepsShapesOnRisingEdges : Obligations.WrSelStepsShapesOnRisingEdges := by
  intro d s
  refine ⟨decodePort_wordOf_write .sel d, fun h => exec_write_refused (exec_wrSel d s) (selData_of_gt h), fun h => ?_⟩
  have hlevels : (BitVec.ofNat 2 d.toNat).toNat = d.toNat := Nat.mod_eq_of_lt (by omega)
  refine ⟨(selectorEvent s.block (BitVec.ofNat 2 d.toNat)).cshape, (selectorEvent s.block (BitVec.ofNat 2 d.toNat)).lshape,
    ?carrier, ?lfo, exec_write_stored (exec_wrSel d s) (selData_of_le h)⟩
  case carrier => simp only [selectorEvent_cshape, shapeCode_ite_shapeStep, risingEdge_zero_iff, hlevels]
  case lfo => simp only [selectorEvent_lshape, shapeCode_ite_shapeStep, risingEdge_one_iff, hlevels]

/-! ### What a read does: it answers the register's value and changes nothing (R170 to R184) -/

theorem exec_readOf (r : Reg) {v : Word} (hv : regRead r s.block = v) :
    exec (readOf r) s = .next { s with out := okPins v } := by
  subst hv
  cases r <;> rfl

theorem zext32_ofBool (c : Bool) : zext32 (BitVec.ofBool c) = if c then 1 else 0 := by cases c <;> rfl

/-- Settles O18. -/
theorem readsOfControlRegisters : Obligations.ReadsOfControlRegisters :=
  ⟨decodePort_wordOf_read .ctrl, decodePort_wordOf_read .ctw, decodePort_wordOf_read .ltw, decodePort_wordOf_read .depth,
    decodePort_wordOf_read .cshape, decodePort_wordOf_read .lshape, decodePort_wordOf_read .sel, fun _ =>
    ⟨exec_readOf .ctrl (zext32_ofBool _), exec_readOf .ctw rfl, exec_readOf .ltw rfl, exec_readOf .depth (zext32_eq _),
      exec_readOf .cshape (zext32_eq _), exec_readOf .lshape (zext32_eq _), exec_readOf .sel (zext32_eq _)⟩⟩

/-- Settles O19: the flags are the bits of the `STATUS` word. -/
theorem readOfStatus : Obligations.ReadOfStatus := by
  refine ⟨decodePort_wordOf_read .status, fun s => exec_readOf .status ?_⟩
  rw [← statusWord_toNat, BitVec.ofNat_toNat, BitVec.setWidth_eq]
  rfl

/-- The register image of a signed number is its value modulo 2^32 (R180). -/
theorem ofInt_toInt_emod (x : Word) : BitVec.ofInt 32 (x.toInt % 2 ^ 32) = x := by
  rw [ofInt_emod, BitVec.ofInt_toInt]

/-- Settles O20. -/
theorem readsOfDatapathRegisters : Obligations.ReadsOfDatapathRegisters :=
  ⟨decodePort_wordOf_read .cphase, decodePort_wordOf_read .lphase, decodePort_wordOf_read .delta,
    decodePort_wordOf_read .outA, decodePort_wordOf_read .outB, decodePort_wordOf_read .csamp,
    decodePort_wordOf_read .lsamp, fun _ =>
    ⟨exec_readOf .cphase rfl, exec_readOf .lphase rfl, exec_readOf .delta (ofInt_toInt_emod _).symm,
      exec_readOf .outA (zext32_eq _), exec_readOf .outB (zext32_eq _), exec_readOf .csamp (zext32_eq _),
      exec_readOf .lsamp (zext32_eq _)⟩⟩

/-- Settles O10. -/
theorem nopLeavesTheStateUnchanged : Obligations.NopLeavesTheStateUnchanged := ⟨by decide, fun _ => rfl⟩

/-! ### Every command answers once, with an error exactly on illegal data (R160) -/

/-- `i` completes from `s` with one response and no pulse; the response is an error exactly on illegal data, and then it
carries 0 and the block has changed by `CFGERR` only. -/
def AnswersOnce (i : Instr) (s : State) : Prop :=
  ∃ (t : State) (r : Response), exec i s = .next t ∧ t.out = answerPins r ∧ (r.err = true ↔ i.legalData = false) ∧
    (r.err = true → r.data = 0 ∧ t.block = raise .cfgErr s.block)

theorem answersOnce_of_respondOk {b : Block} {v : Word} (hl : i.legalData = true) (h : exec i s = respondOk s b v) :
    AnswersOnce i s :=
  ⟨_, _, h, rfl, by simp [hl], nofun⟩

theorem answersOnce_of_respondErr (hl : i.legalData = false) (h : exec i s = respondErr s .cfgErr) : AnswersOnce i s :=
  ⟨_, _, h, rfl, by simp [hl], fun _ => ⟨rfl, rfl⟩⟩

/-- A write answers by its operand: the data is legal exactly when it is taken. -/
theorem answersOnce_of_writeCommand (hl : data.isSome = i.legalData) (h : exec i s = writeCommand data effect s) :
    AnswersOnce i s := by
  cases data with
  | some v => exact answersOnce_of_respondOk hl.symm h
  | none => exact answersOnce_of_respondErr hl.symm h

theorem ctrlData_isSome (d : Word) : (ctrlData d).isSome = decide (d.toNat ≤ 1) := by
  unfold ctrlData; split <;> simp [*]

theorem depthData_isSome (d : Word) : (depthData d).isSome = decide (d.toNat ≤ 255) := by
  unfold depthData; split <;> simp [*]

theorem selData_isSome (d : Word) : (selData d).isSome = decide (d.toNat ≤ 3) := by
  unfold selData; split <;> simp [*]

theorem answersOnce_of_host (s : State) (hi : i.agent = .host) : AnswersOnce i s := by
  cases i
  case wrCtrl d => exact answersOnce_of_writeCommand (ctrlData_isSome d) (exec_wrCtrl d s)
  case wrCtw d => exact answersOnce_of_writeCommand rfl (exec_wrCtw d s)
  case wrLtw d => exact answersOnce_of_writeCommand rfl (exec_wrLtw d s)
  case wrDepth d => exact answersOnce_of_writeCommand (depthData_isSome d) (exec_wrDepth d s)
  case wrCshape d => exact answersOnce_of_writeCommand (shapeData_isSome d) (exec_wrCshape d s)
  case wrLshape d => exact answersOnce_of_writeCommand (shapeData_isSome d) (exec_wrLshape d s)
  case wrSel d => exact answersOnce_of_writeCommand (selData_isSome d) (exec_wrSel d s)
  case nop | rdCtrl | rdStatus | rdCtw | rdLtw | rdDepth | rdCshape | rdLshape | rdSel | rdCphase | rdLphase | rdDelta
  | rdOuta | rdOutb | rdCsamp | rdLsamp => exact answersOnce_of_respondOk rfl rfl
  case evtTimer | evtEngine | evtReset => cases hi

/-- Settles O35: a command answers once, and what it may not write is in the host's frame. -/
theorem hostCommandsCompleteWithOneResponse : Obligations.HostCommandsCompleteWithOneResponse := by
  intro i s hi
  obtain ⟨t, r, h, hout, herr, hrefused⟩ := answersOnce_of_host s hi
  have hf := exec_host_frame hi h
  exact ⟨t, r, h, hout, exec_schedule h, hf.cphase, hf.lphase, hf.delta, hf.csamp, hf.lsamp, hf.outA, hf.outB,
    hf.tickPend, hf.overrun, hf.budget, hf.history, herr, hrefused⟩

/-! ### The refused words (R185 to R187) -/

/-- A word that is no command: its fields are reserved, it writes a read-only register, or it names register 15. -/
def IsRefusedWord (w : CmdWord) : Prop :=
  rsvNum w ≠ 0 ∨ (kindNum w = 0 ∧ (regNum w ≠ 0 ∨ dataNum w ≠ 0)) ∨ (kindNum w = 2 ∧ dataNum w ≠ 0) ∨ kindNum w = 3 ∨
    (kindNum w = 1 ∨ kindNum w = 2) ∧ regNum w = 15 ∨ kindNum w = 1 ∧ (regNum w = 1 ∨ 8 ≤ regNum w ∧ regNum w ≤ 14)

/-- Such a word is in one of the decoder's three refused classes (30_encoding.md R75). -/
theorem decodePort_of_isRefusedWord (h : IsRefusedWord w) :
    decodePort w = .reserved ∨ decodePort w = .unmapped ∨ ∃ r, decodePort w = .writeToReadOnly r := by
  simp only [IsRefusedWord, kindNum_eq, rsvNum_eq, regNum_eq, dataNum_eq] at h
  by_cases hv : rsvField w = 0#2
  case neg => exact .inl (decodePort_of_rsv_ne hv)
  obtain h | ⟨hk, h⟩ | ⟨hk, hd⟩ | hk | ⟨hk | hk, hg⟩ | ⟨hk, hg⟩ := h
  · exact absurd (congrArg BitVec.toNat hv) h
  · left
    rw [decodePort_kind_zero hv (BitVec.eq_of_toNat_eq hk), if_neg]
    rintro ⟨hg, hd⟩
    simp [hg, hd] at h
  · exact .inl (decodePort_kind_two_data hv (BitVec.eq_of_toNat_eq hk) (ne_of_apply_ne BitVec.toNat hd))
  · exact .inl (decodePort_kind_three hv (BitVec.eq_of_toNat_eq hk))
  · exact .inr (.inl (decodePort_write_unmapped hv (BitVec.eq_of_toNat_eq hk) (BitVec.eq_of_toNat_eq hg)))
  · have hk : kindField w = 2#2 := BitVec.eq_of_toNat_eq hk
    by_cases hd : dataField w = 0#32
    · exact .inr (.inl (decodePort_read_unmapped hv hk hd (BitVec.eq_of_toNat_eq hg)))
    · exact .inl (decodePort_kind_two_data hv hk hd)
  · obtain ⟨r, hr, hro⟩ := exists_readOnly hg (dataField w)
    have hwrite := decodePort_write hv (BitVec.eq_of_toNat_eq hk) (BitVec.eq_of_toNat_eq hr.symm)
    exact .inr (.inr ⟨r, hwrite.trans hro⟩)

/-- Settles O7: a trace decodes such a word as the port does, unless its `KIND` is 3. -/
theorem refusedWordsRaiseBadcmd : Obligations.RefusedWordsRaiseBadcmd := by
  intro s w rest hw
  have hport := decodePort_of_isRefusedWord hw
  refine ⟨fun ha => step_of_refused_arrival ha hport, fun ha hk => step_of_refused_arrival ha ?_⟩
  rw [kindNum_eq] at hk
  have htrace := decodeTrace_of_kind_ne_three (ne_of_apply_ne BitVec.toNat hk)
  rwa [decodeArrival, htrace]

end Sys2Proof.Machine

/-! PROOFS. The faults (60_exceptions.md R200 to R213). Each step but the reset event raises the one flag that the step
determines, or none, and leaves the other flags: one function of the state says which, and every statement about the flags
reads it. -/

namespace Sys2Proof.Machine

variable {s t : State} {b b' b₁ : Block} {f : FaultFlag} {F : Option FaultFlag} {i : Instr}

/-! ### The flag a step raises (R202) -/

/-- The flag `i` raises in a block `b`, if any (R202). -/
def raisedByInstr (b : Block) : Instr → Option FaultFlag
  | .evtTimer => if b.run && b.tickPend then some .overrun else none
  | .evtEngine => if budgetViolated (engineShifted Config.wt b) then some .budget else none
  | i => if i.legalData then none else some .cfgErr

/-- The flag the next step raises, if any: an instruction's own, `BADCMD` for a refused word. -/
def raisedFault (s : State) : Option FaultFlag :=
  match nextStep s with
  | some (.instr i) => raisedByInstr s.block i
  | some .reserved | some .unmapped | some (.writeToReadOnly _) => some .badCmd
  | some .notTraceWord | none => none

/-- An instruction raises a flag only as its agent's rule says (R202). -/
theorem raisedByInstr_cases (h : raisedByInstr b i = some f) :
    (f = .overrun ∧ i = .evtTimer ∧ b.run = true ∧ b.tickPend = true) ∨ (f = .budget ∧ i = .evtEngine) ∨
    (f = .cfgErr ∧ i.legalData = false) := by
  unfold raisedByInstr at h
  split at h
  · obtain ⟨hc, hf⟩ := Option.ite_none_right_eq_some.mp h
    obtain ⟨hr, hp⟩ := Bool.and_eq_true_iff.mp hc
    exact .inl ⟨(Option.some.inj hf).symm, rfl, hr, hp⟩
  · obtain ⟨-, hf⟩ := Option.ite_none_right_eq_some.mp h
    exact .inr (.inl ⟨(Option.some.inj hf).symm, rfl⟩)
  · obtain ⟨hl, hf⟩ := Option.ite_none_left_eq_some.mp h
    exact .inr (.inr ⟨(Option.some.inj hf).symm, Bool.eq_false_iff.mpr hl⟩)

theorem raisedFault_instr (hn : nextStep s = some (.instr i)) : raisedFault s = raisedByInstr s.block i := by
  simp [raisedFault, hn]

theorem raisedFault_refused
    (hn : nextStep s = some .reserved ∨ nextStep s = some .unmapped ∨ ∃ r, nextStep s = some (.writeToReadOnly r)) :
    raisedFault s = some .badCmd := by
  obtain hn | hn | ⟨r, hn⟩ := hn <;> simp [raisedFault, hn]

theorem raisedFault_none (hn : nextStep s = none) : raisedFault s = none := by simp [raisedFault, hn]

/-! ### What happens to the flags -/

/-- From `b` to `b'` the flag `F`, if any, is raised, and every other flag keeps its value (R201). -/
def Block.Raises (b : Block) (F : Option FaultFlag) (b' : Block) : Prop :=
  ∀ g, faultSet g b' = true ↔ F = some g ∨ faultSet g b = true

theorem Block.Raises.refl (b : Block) : b.Raises none b := by simp [Block.Raises]

/-- Only the flags of the later block matter. -/
theorem Block.Raises.congr (h : b.Raises F b₁) (hb : ∀ g, faultSet g b' = faultSet g b₁) : b.Raises F b' :=
  fun g => by rw [hb, h g]

theorem raises_raise (f : FaultFlag) (b : Block) : b.Raises (some f) (raise f b) := by
  simp [Block.Raises, faultSet_raise, eq_comm (a := f)]

theorem raises_raiseIf (c : Bool) (f : FaultFlag) (b : Block) :
    b.Raises (if c then some f else none) (raiseIf c f b) := by
  cases c with
  | true => rw [raiseIf_true]; exact raises_raise f b
  | false => rw [raiseIf_false]; exact .refl b

/-- The timer event raises `OVERRUN` where a tick is still pending (43_modulation_engine.md R131). -/
theorem raises_timerEvent (b : Block) : b.Raises (raisedByInstr b .evtTimer) (timerEvent b) :=
  (raises_raiseIf _ .overrun b).congr fun g => by cases g <;> simp [faultSet]

/-- The engine step raises `BUDGET` where the shifted product does not fit (43_modulation_engine.md R138). -/
theorem raises_engineStep (b : Block) : b.Raises (raisedByInstr b .evtEngine) (engineStep Config.wt b) :=
  (raises_raiseIf _ .budget b).congr fun g => by cases g <;> rfl

/-- A write whose effect keeps the flags raises `CFGERR` where its data is not taken, and nothing otherwise (R204). -/
theorem writeCommand_raises {α : Type} {data : Option α} {effect : α → Block → Block}
    (hF : F = if data.isSome then none else some .cfgErr)
    (heff : ∀ v g, faultSet g (effect v s.block) = faultSet g s.block) (h : writeCommand data effect s = .next t) :
    s.block.Raises F t.block := by
  obtain ⟨v, rfl, ht⟩ | ⟨rfl, ht⟩ := writeCommand_block h
  · rw [ht, hF]; exact (Block.Raises.refl _).congr (heff v)
  · rw [ht, hF]; exact raises_raise .cfgErr _

theorem exec_raises (hi : i ≠ .evtReset) (h : exec i s = .next t) : s.block.Raises (raisedByInstr s.block i) t.block := by
  cases i <;> simp only [exec] at h
  case nop | rdCtrl | rdStatus | rdCtw | rdLtw | rdDepth | rdCshape | rdLshape | rdSel | rdCphase | rdLphase | rdDelta
  | rdOuta | rdOutb | rdCsamp | rdLsamp => rw [respondOk_block h]; exact .refl _
  case wrCtrl | wrCtw | wrLtw | wrDepth | wrCshape | wrLshape | wrSel =>
    refine writeCommand_raises ?_ (fun v g => by cases g <;> rfl) h
    simp [raisedByInstr, Instr.legalData, ctrlData_isSome, depthData_isSome, shapeData_isSome, selData_isSome]
  case evtTimer => rw [execEvtTimer_block h]; exact raises_timerEvent _
  case evtEngine => rw [(execEvtEngine_block h).2]; exact raises_engineStep _
  case evtReset => exact absurd rfl hi

/-- A completed step other than the reset event raises its fault, if it has one, and leaves every other flag. -/
theorem step_raises (h : step s = .next t) (hr : nextStep s ≠ some (.instr .evtReset)) :
    s.block.Raises (raisedFault s) t.block := by
  obtain ⟨i, hn, hx⟩ | ⟨hn, rfl⟩ | ⟨hn, rfl⟩ := step_cases h
  · rw [raisedFault_instr hn]
    exact exec_raises (s := fetched s) (fun hi => hr (hi ▸ hn)) hx
  · rw [raisedFault_refused hn]; exact raises_raise .badCmd _
  · rw [raisedFault_none hn]; exact .refl _

theorem faultSet_reset (f : FaultFlag) : faultSet f Block.reset = false := by cases f <;> rfl

/-- A flag that goes from 0 to 1 is the step's fault; the reset event, which clears the flags, included. -/
theorem raisedFault_of_newly_set (h : step s = .next t) (h0 : faultSet f s.block = false)
    (h1 : faultSet f t.block = true) : raisedFault s = some f := by
  by_cases hr : nextStep s = some (.instr .evtReset)
  · rw [step_evtReset_block h hr, faultSet_reset] at h1
    cases h1
  · exact ((step_raises h hr f).mp h1).resolve_right (Bool.eq_false_iff.mp h0)

/-! ### The statements -/

/-- `RUN` is cleared by the reset event only (10_state.md R25). -/
theorem step_run_stays (h : step s = .next t) (hr : nextStep s ≠ some (.instr .evtReset)) (hrun : s.block.run = true) :
    t.block.run = true := by
  obtain ⟨-, -, ht⟩ | ⟨hn, -⟩ | ⟨-, ht⟩ | hf := step_block_cases h
  · rw [ht, engineStep_run, hrun]
  · exact absurd hn hr
  · rw [ht, timerEvent_run, hrun]
  · exact hf.run_stays hrun

/-- Settles O32. -/
theorem onlyResetClearsRunAndFlags : Obligations.OnlyResetClearsRunAndFlags :=
  fun _ _ h hr => ⟨fun f hf => (step_raises h hr f).mpr (.inr hf), step_run_stays h hr⟩

/-- Settles O36: the flag is a function of the state before the step. -/
theorem oneStepRaisesAtMostOneFault : Obligations.OneStepRaisesAtMostOneFault := by
  intro s t f g h hf0 hf1 hg0 hg1
  have hf := raisedFault_of_newly_set h hf0 hf1
  have hg := raisedFault_of_newly_set h hg0 hg1
  exact Option.some.inj (hf.symm.trans hg)

/-- A step has a fault only as its agent's rule says (R202, R210). -/
theorem raisedFault_cases (h : raisedFault s = some f) :
    (f = .overrun ∧ nextStep s = some (.instr .evtTimer) ∧ s.block.run = true ∧ s.block.tickPend = true) ∨
    (f = .budget ∧ nextStep s = some (.instr .evtEngine)) ∨
    (f = .cfgErr ∧ ∃ i : Instr, nextStep s = some (.instr i) ∧ i.legalData = false) ∨
    (f = .badCmd ∧
      (nextStep s = some .reserved ∨ nextStep s = some .unmapped ∨ ∃ r, nextStep s = some (.writeToReadOnly r))) := by
  unfold raisedFault at h
  split at h
  · next i hn =>
    obtain ⟨hf, rfl, hrun, hp⟩ | ⟨hf, rfl⟩ | ⟨hf, hl⟩ := raisedByInstr_cases h
    · exact .inl ⟨hf, hn, hrun, hp⟩
    · exact .inr (.inl ⟨hf, hn⟩)
    · exact .inr (.inr (.inl ⟨hf, i, hn, hl⟩))
  · next hn => exact .inr (.inr (.inr ⟨(Option.some.inj h).symm, .inl hn⟩))
  · next hn => exact .inr (.inr (.inr ⟨(Option.some.inj h).symm, .inr (.inl hn)⟩))
  · next r hn => exact .inr (.inr (.inr ⟨(Option.some.inj h).symm, .inr (.inr ⟨r, hn⟩)⟩))
  · cases h
  · cases h

/-- Settles O37. -/
theorem eachAgentRaisesItsOwnFault : Obligations.EachAgentRaisesItsOwnFault := by
  intro s t f h h0 h1
  obtain ⟨rfl, htimer⟩ | ⟨rfl, hengine⟩ | ⟨rfl, hwrite⟩ | ⟨rfl, hrefused⟩ :=
    raisedFault_cases (raisedFault_of_newly_set h h0 h1)
  · exact ⟨fun _ => htimer, nofun, nofun, nofun⟩
  · exact ⟨nofun, fun _ => hengine, nofun, nofun⟩
  · exact ⟨nofun, nofun, fun _ => hwrite, nofun⟩
  · exact ⟨nofun, nofun, nofun, fun _ => hrefused⟩

theorem step_evtTimer_block (h : step s = .next t) (hn : nextStep s = some (.instr .evtTimer)) :
    t.block = timerEvent s.block := by
  rw [step_instr hn] at h
  exact execEvtTimer_block (s := fetched s) h

/-- Settles O34, for each of the two events by what it leaves of the block. -/
theorem engineAndTimerWriteNoControlRegister : Obligations.EngineAndTimerWriteNoControlRegister := by
  rintro s t h (hn | hn)
  · simp [step_evtEngine_next h hn]
  · simp [step_evtTimer_block h hn]

end Sys2Proof.Machine

/-! PROOFS. Reset, rest and startup (70_reset_and_hazards.md R230, R231, R234). A host's list of steps is run by what
each step makes of the block, one after the other; what it leaves is then a matter of blocks only. -/

namespace Sys2Proof.Machine

variable {s t : State} {b b' b₁ : Block} {i : Instr} {is : List Instr} {n : Nat}

/-! ### The block at rest (R231) -/

/-- What a host command leaves unstarted was unstarted before it. -/
theorem Block.HostFrame.run_eq_false (hf : b.HostFrame b') (hr : b'.run = false) : b.run = false :=
  Bool.eq_false_iff.mpr fun hrun => Bool.eq_false_iff.mp hr (hf.run_stays hrun)

theorem Block.RestUntilStart.of_hostFrame (hb : b.RestUntilStart) (hf : b.HostFrame b') : b'.RestUntilStart := by
  intro hr
  rw [hf.cphase, hf.lphase, hf.delta, hf.csamp, hf.lsamp, hf.outA, hf.outB, hf.history, hf.tickPend, hf.overrun,
    hf.budget]
  exact hb (hf.run_eq_false hr)

/-- A timer event in an unstarted block changes nothing (43_modulation_engine.md R131). -/
theorem Block.RestUntilStart.timerEvent (hb : b.RestUntilStart) : (timerEvent b).RestUntilStart := by
  intro hr
  rw [timerEvent_run] at hr
  rw [timerEvent_of_not_run hr]
  exact hb hr

/-- A pending tick is the tick of a started block (43_modulation_engine.md R131). -/
theorem Block.RestUntilStart.run_of_pending (hb : b.RestUntilStart) (hp : b.tickPend = true) : b.run = true := by
  by_contra hr
  obtain ⟨-, -, -, -, -, -, -, -, hp', -, -⟩ := hb (Bool.eq_false_iff.mpr hr)
  rw [hp] at hp'
  cases hp'

theorem Block.restUntilStart_of_run (hr : b.run = true) : b.RestUntilStart := by
  intro hr'
  rw [hr] at hr'
  cases hr'

theorem Block.restUntilStart_reset : Block.reset.RestUntilStart := by simp [Block.RestUntilStart, Block.reset]

/-- Settles O30: the engine step needs a pending tick, which an unstarted block at rest does not have, and the timer event
gives it none. -/
theorem everyStepKeepsTheBlockAtRestUntilStart : Obligations.EveryStepKeepsTheBlockAtRestUntilStart := by
  intro s t hs h
  obtain ⟨-, hp, ht⟩ | ⟨-, ht⟩ | ⟨-, ht⟩ | hf := step_block_cases h
  · rw [ht]; exact Block.restUntilStart_of_run (hs.run_of_pending hp)
  · rw [ht]; exact Block.restUntilStart_reset
  · rw [ht]; exact hs.timerEvent
  · exact hs.of_hostFrame hf

/-! ### The reset event (R230) -/

theorem exec_evtReset (s : State) : exec .evtReset s = .next (s.finish Block.reset Pins.quiet) := rfl

/-- Settles O25: the reset event reads nothing of the state, and a word presented under reset is that event. -/
theorem resetGivesEveryElementItsValue : Obligations.ResetGivesEveryElementItsValue := by
  refine ⟨(decodeOfEncode .evtReset).1, fun s => ?event, fun s w rest hs => ?underReset⟩
  case event => exact ⟨_, exec_evtReset s, resetStateHoldsTheSpecValues, rfl⟩
  case underReset =>
    have hstep := step_of_arrival (i := .evtReset) hs rfl
    exact ⟨_, hstep.trans (exec_evtReset _), resetStateHoldsTheSpecValues, rfl⟩

/-! ### Running a host's list of steps (30_encoding.md R77) -/

/-- In every state with the block `b`, `i` completes and leaves the block `b'`. -/
def Completes (i : Instr) (b b' : Block) : Prop :=
  ∀ s : State, s.block = b → ∃ t, exec i s = .next t ∧ t.block = b'

/-- From every state with the block `b`, the trace of `is` runs to its end and leaves the block `b'`. -/
def TraceCompletes (is : List Instr) (b b' : Block) : Prop :=
  ∀ s : State, s.block = b → ∃ t, runSteps is.length (s.withTrace (traceWords is)) = .next t ∧ t.block = b'

theorem traceCompletes_nil (b : Block) : TraceCompletes [] b b := fun _ hs => ⟨_, rfl, hs⟩

/-- A trace performs its first step and then the others: each word of the trace decodes to the step it was made from. -/
theorem Completes.cons (h : Completes i b b₁) (hrest : TraceCompletes is b₁ b') : TraceCompletes (i :: is) b b' := by
  intro s hs
  obtain ⟨u, hexec, hu⟩ := h (s.withTrace (traceWords is)) hs
  have hstep : step (s.withTrace (encode i :: traceWords is)) = .next u := by
    rw [step_withTrace_cons (decodeOfEncode i).1, hexec]
  obtain ⟨t, hrun, ht⟩ := hrest u hu
  refine ⟨t, ?_, ht⟩
  calc runSteps (i :: is).length (s.withTrace (encode i :: traceWords is))
      = runSteps is.length (u.withTrace (traceWords is)) := by
        simpa [traceWords] using runSteps_withTrace_of_step hstep
    _ = .next t := hrun

/-- A write with legal data leaves its effect. -/
theorem completes_write {α : Type} {data : Option α} {effect : α → Block → Block} {v : α}
    (h : ∀ s, exec i s = writeCommand data effect s) (hd : data = some v) : Completes i b (effect v b) := by
  rintro s rfl
  exact ⟨_, exec_write_stored (h s) hd, rfl⟩

theorem completes_evtTimer (b : Block) : Completes .evtTimer b (timerEvent b) := by
  rintro s rfl
  exact ⟨_, exec_evtTimer s, rfl⟩

theorem completes_evtEngine (hp : b.tickPend = true) : Completes .evtEngine b (engineStep Config.wt b) := by
  rintro s rfl
  exact ⟨_, exec_evtEngine_of_pending hp, rfl⟩

/-! ### The unconfigured block (R234) -/

/-- The block after a timer event and the engine step that serves it. -/
def servedTick (b : Block) : Block := engineStep Config.wt (timerEvent b)

/-- The steps of `tick n` (30_encoding.md R83). -/
def tickSteps (n : Nat) : List Instr := (List.replicate n [Instr.evtTimer, Instr.evtEngine]).flatten

theorem expandPseudo_tick (S : ℚ) (n : Nat) : expandPseudo S (.tick n) = some (tickSteps n) := rfl

theorem tickSteps_length (n : Nat) : (tickSteps n).length = 2 * n := by simp [tickSteps, Nat.mul_comm]

theorem tickSteps_succ (n : Nat) : tickSteps (n + 1) = .evtTimer :: .evtEngine :: tickSteps n := rfl

/-- In a started block every tick is served. -/
theorem traceCompletes_tickSteps (hr : b.run = true) : TraceCompletes (tickSteps n) b (servedTick^[n] b) := by
  induction n generalizing b with
  | zero => exact traceCompletes_nil b
  | succ n ih =>
    have hp : (timerEvent b).tickPend = true := by simp [hr]
    have hrun : (servedTick b).run = true := by simp [servedTick, hr]
    rw [tickSteps_succ, Function.iterate_succ_apply]
    exact (completes_evtTimer b).cons ((completes_evtEngine hp).cons (ih hrun))

/-- The pair rescaled from the first entry of the Sine table (44_output_stage.md R150, R151). -/
def firstPair : BitVec 8 × BitVec 7 := (rescaleA (Config.wt .sine 0), rescaleB (Config.wt .sine 0))

/-- Tuning words and shapes are at their reset values, no phase has moved, and `n` pairs of the Sine table's first entry
were emitted. -/
structure Block.UnconfiguredAfter (n : Nat) (b : Block) : Prop where
  ctw : b.ctw = 0 := by rfl
  ltw : b.ltw = 0 := by rfl
  cshape : b.cshape = .sine := by rfl
  lshape : b.lshape = .sine := by rfl
  cphase : b.cphase = 0 := by rfl
  lphase : b.lphase = 0 := by rfl
  history : b.history = List.replicate n firstPair := by rfl

theorem Block.UnconfiguredAfter.timerEvent (hb : b.UnconfiguredAfter n) : (timerEvent b).UnconfiguredAfter n := by
  obtain ⟨hctw, hltw, hcs, hls, hcp, hlp, hh⟩ := hb
  constructor <;> simpa

/-- With tuning words 0 neither phase advances: the delta is a multiple of `CTW` (43_modulation_engine.md R137). -/
theorem Block.UnconfiguredAfter.engineStep (hb : b.UnconfiguredAfter n) :
    (engineStep Config.wt b).UnconfiguredAfter (n + 1) := by
  have hlphase : engineLphase b = 0 := by simp [engineLphase, hb.lphase, hb.ltw]
  have hdelta : engineDelta Config.wt b = 0 := modDelta_eq_zero (.inr (.inr hb.ctw))
  have hcphase : engineCphase Config.wt b = 0 := by simp [engineCphase_of_delta_zero hdelta, hb.cphase, hb.ctw]
  have hlsamp : engineLsamp Config.wt b = Config.wt .sine 0 := by rw [engineLsamp, hlphase, hb.lshape]; rfl
  have hcsamp : engineCsamp Config.wt b = Config.wt .sine 0 := by rw [engineCsamp, hcphase, hb.cshape]; rfl
  exact {
    ctw := hb.ctw
    ltw := hb.ltw
    cshape := hb.cshape
    lshape := hb.lshape
    cphase := hcphase
    lphase := hlphase
    history := by rw [engineStep_history, hlsamp, hcsamp, hb.history, List.replicate_succ']; rfl }

theorem Block.UnconfiguredAfter.iterate_servedTick (hb : b.UnconfiguredAfter 0) (n : Nat) :
    (servedTick^[n] b).UnconfiguredAfter n := by
  induction n with
  | zero => exact hb
  | succ n ih =>
    rw [Function.iterate_succ_apply']
    exact ih.timerEvent.engineStep

theorem completes_start (b : Block) : Completes (.wrCtrl 1) b { b with run := true } := by
  have h := completes_write (b := b) (v := true) (exec_wrCtrl 1) rfl
  rwa [Bool.or_true] at h

/-- Settles O56: after the start each tick is served, and serving one emits the first pair and moves no phase. -/
theorem unconfiguredBlockEmitsTheFirstSample : Obligations.UnconfiguredBlockEmitsTheFirstSample := by
  intro n
  have hstarted : { Block.reset with run := true }.UnconfiguredAfter 0 := {}
  have hend := hstarted.iterate_servedTick n
  obtain ⟨t, hrun, ht⟩ := (completes_start _).cons (traceCompletes_tickSteps (n := n) rfl) State.reset rfl
  rw [List.length_cons, tickSteps_length, Nat.add_comm] at hrun
  rw [← rescaleA_eq_ofNat, ← rescaleB_eq_ofNat]
  exact ⟨t, hrun, ht ▸ hend.history, ht ▸ hend.cphase, ht ▸ hend.lphase⟩

/-! ### The startup sequence (R234, log 19) -/

theorem zext32_toNat (hn : n ≤ 32) (v : BitVec n) : (zext32 v).toNat = v.toNat :=
  BitVec.toNat_setWidth_of_le hn

/-- A depth, as the host sends it, is legal data (10_state.md R28). -/
theorem depthData_zext32 (d : Depth) : depthData (zext32 d) = some d := by
  have hd : (zext32 d).toNat = d.toNat := zext32_toNat (by decide) d
  rw [depthData_of_le (by omega), hd, BitVec.ofNat_toNat, BitVec.setWidth_eq]

/-- A shape's code, as the host sends it, is legal data (10_state.md R29, R30). -/
theorem shapeData_zext32 (sh : WaveShape) : shapeData (zext32 (shapeCode sh)) = some sh := by
  rw [shapeData, zext32_toNat (by decide), shapeOfCode_shapeCode]

/-- The writes of the startup where no selector is active: the two tuning words, the depth, the shapes, the start. -/
def startupWrites (c : HostDefaults) (ct lt : Word) : List Instr :=
  [.wrCtw ct, .wrLtw lt, .wrDepth (zext32 c.depth), .wrCshape (zext32 (shapeCode c.cshape)),
    .wrLshape (zext32 (shapeCode c.lshape)), .wrCtrl 1]

theorem startupSteps_none {c : HostDefaults} {ct lt : Word}
    (hct : tuningWord (clampCarrier c.carrierHz) c.sampleRateHz = some ct)
    (hlt : tuningWord (clampLfo c.lfoHz) c.sampleRateHz = some lt) :
    startupSteps c none = some (startupWrites c ct lt) := by
  simp [startupSteps, startupWrites, hct, hlt]

/-- Every write of the startup has legal data, so each is stored, whatever the block. -/
theorem traceCompletes_startupWrites (b : Block) (c : HostDefaults) (ct lt : Word) :
    TraceCompletes (startupWrites c ct lt) b
      { b with ctw := ct, ltw := lt, depth := c.depth, cshape := c.cshape, lshape := c.lshape, run := true } :=
  (completes_write (exec_wrCtw ct) rfl).cons <|
  (completes_write (exec_wrLtw lt) rfl).cons <|
  (completes_write (exec_wrDepth _) (depthData_zext32 c.depth)).cons <|
  (completes_write (exec_wrCshape _) (shapeData_zext32 c.cshape)).cons <|
  (completes_write (exec_wrLshape _) (shapeData_zext32 c.lshape)).cons <|
  (completes_start _).cons (traceCompletes_nil _)

/-- Settles O57: the startup of the statement is these writes, run on the reset block. -/
theorem startupConfiguresAndStartsTheBlock : Obligations.StartupConfiguresAndStartsTheBlock := by
  intro c ct lt hct hlt
  obtain ⟨t, hrun, ht⟩ := traceCompletes_startupWrites Block.reset c ct lt State.reset rfl
  exact ⟨_, t, startupSteps_none hct hlt, hrun, ht⟩

end Sys2Proof.Machine
